-- ==== Sys2Proof/Word.lean ====
section
/-! DEFINITION. The word types of the NTSCQT signal core (00_scope.md R6; 10_state.md R21, R50, R51). -/

namespace Sys2Proof

/-- A register of the register space, and a command word: 32 bits (10_state.md R21; 30_encoding.md R80). -/
abbrev Word := BitVec 32

/-- One channel of one pixel: an unsigned byte of a frame memory (10_state.md R50). -/
abbrev Byte := BitVec 8

/-- One sample of a plane: signed 32-bit two's complement, one indivisible value (10_state.md R51;
20_memory.md R64). Its integer is `BitVec.toInt`. -/
abbrev Sample := BitVec 32

end Sys2Proof
end

