-- ==== Sys2Proof/Syntax.lean ====
section
/-! DEFINITION. The command set NTQ-CMD version 1: one constructor per row of the opcode map
(30_encoding.md R81). -/

namespace Sys2Proof

/-- The thirteen commands. `pm` is the plane mask, bits 10:8 of the word: bit 0 selects plane `Y`, bit 1 plane
`I`, bit 2 plane `Q` (30_encoding.md R80, R82). No command has another operand (R83). -/
inductive Instr where
  | nop
  | toyiq
  | fromyiq
  | lpf (pm : BitVec 3)
  | hpf (pm : BitVec 3)
  | lpf3 (pm : BitVec 3)
  | preemph
  | c2l
  | l2c
  | lnoise
  | cnoise
  | pnoise
  | dropout
  deriving DecidableEq, Repr

end Sys2Proof
end

