-- ==== Sys2Proof/WellFormed.lean ====
section
/-! DEFINITION. Which command words are legal (30_encoding.md R84), said in the rule's own terms and independent of
the decoder; and which instructions are well-formed. -/

namespace Sys2Proof

/-- The operation codes of 30_encoding.md R81. -/
def legalOps : List Nat :=
  [0x00, 0x01, 0x02, 0x10, 0x11, 0x12, 0x13, 0x20, 0x21, 0x30, 0x31, 0x32, 0x33]

/-- The operation codes whose command takes a plane mask (30_encoding.md R82). -/
def maskedOps : List Nat := [0x10, 0x11, 0x12]

/-- The check on bits 31:11, which must be 0 (30_encoding.md R80). -/
def reservedClear (w : Word) : Bool := w.toNat / 2048 == 0

/-- The check on bits 7:0: one of the thirteen codes (30_encoding.md R81). -/
def opDefined (w : Word) : Bool := legalOps.contains (w.toNat % 256)

/-- The check on bits 10:8: 0 unless the command takes a mask (30_encoding.md R84). -/
def maskAllowed (w : Word) : Bool :=
  maskedOps.contains (w.toNat % 256) || w.toNat / 256 % 8 == 0

/-- A word is legal when none of the three clauses of 30_encoding.md R84 makes it illegal. -/
def legalWord (w : Word) : Bool := reservedClear w && opDefined w && maskAllowed w

/-- An instruction is well-formed when its plane mask is one of the eight values of a 3-bit field. The type of the
mask says so already, so every instruction is: the checks that can fail are those on words, above. -/
def Instr.wf : Instr → Bool
  | .lpf pm => decide (pm.toNat < 8)
  | .hpf pm => decide (pm.toNat < 8)
  | .lpf3 pm => decide (pm.toNat < 8)
  | .nop => true
  | .toyiq => true
  | .fromyiq => true
  | .preemph => true
  | .c2l => true
  | .l2c => true
  | .lnoise => true
  | .cnoise => true
  | .pnoise => true
  | .dropout => true

end Sys2Proof
end

