-- ==== Sys2Proof/Decode.lean ====
section
/-! DEFINITION. Decoding a command word (30_encoding.md R80 to R86) and, after it, the encoder. -/

namespace Sys2Proof

/-- One row of the opcode table (30_encoding.md R86): a word selects it when `w band mask = match`; `build` makes
the command from the plane mask. -/
structure OpcodeRow where
  mask : Word
  value : Word
  build : BitVec 3 → Instr

/-- The mask of a command without a plane mask: every bit is fixed. -/
def fullMask : Word := 0xFFFFFFFF#32

/-- The mask of a command with a plane mask: every bit but 10:8 is fixed. -/
def planeMaskFree : Word := 0xFFFFF8FF#32

/-- The thirteen rows (30_encoding.md R81, R86). -/
def opcodeRows : List OpcodeRow :=
  [ ⟨fullMask, 0x00000000#32, fun _ => .nop⟩,
    ⟨fullMask, 0x00000001#32, fun _ => .toyiq⟩,
    ⟨fullMask, 0x00000002#32, fun _ => .fromyiq⟩,
    ⟨planeMaskFree, 0x00000010#32, .lpf⟩,
    ⟨planeMaskFree, 0x00000011#32, .hpf⟩,
    ⟨planeMaskFree, 0x00000012#32, .lpf3⟩,
    ⟨fullMask, 0x00000013#32, fun _ => .preemph⟩,
    ⟨fullMask, 0x00000020#32, fun _ => .c2l⟩,
    ⟨fullMask, 0x00000021#32, fun _ => .l2c⟩,
    ⟨fullMask, 0x00000030#32, fun _ => .lnoise⟩,
    ⟨fullMask, 0x00000031#32, fun _ => .cnoise⟩,
    ⟨fullMask, 0x00000032#32, fun _ => .pnoise⟩,
    ⟨fullMask, 0x00000033#32, fun _ => .dropout⟩ ]

/-- Why a word is illegal (30_encoding.md R84; each raises the same fault, 60_exceptions.md R201). -/
inductive Reject where
  /-- Bits 31:11 are not all 0. -/
  | reservedBits
  /-- Bits 7:0 are none of the thirteen codes. -/
  | unknownOp
  /-- A plane-mask bit on a command that takes no mask. -/
  | strayMask
  deriving DecidableEq, Repr

/-- The field `pm`, bits 10:8 (30_encoding.md R80). -/
def planeMaskOf (w : Word) : BitVec 3 := w.extractLsb' 8 3

/-- The first clause of 30_encoding.md R84 that a word without a row falls under. -/
def rejectReason (w : Word) : Reject :=
  if reservedClear w then if opDefined w then .strayMask else .unknownOp else .reservedBits

/-- The command a word stands for, or why it stands for none (30_encoding.md R84, R86). -/
def decode (w : Word) : Except Reject Instr :=
  match opcodeRows.find? (fun r => w &&& r.mask == r.value) with
  | some r => .ok (r.build (planeMaskOf w))
  | none => .error (rejectReason w)

/-- The word with operation code `op` and plane mask `pm`, its reserved bits 0 (30_encoding.md R80). -/
def encodeFields (op : BitVec 8) (pm : BitVec 3) : Word := (0#21 ++ pm) ++ op

/-- The word of a command (30_encoding.md R81, R84). -/
def encode : Instr → Word
  | .nop => encodeFields 0x00#8 0#3
  | .toyiq => encodeFields 0x01#8 0#3
  | .fromyiq => encodeFields 0x02#8 0#3
  | .lpf pm => encodeFields 0x10#8 pm
  | .hpf pm => encodeFields 0x11#8 pm
  | .lpf3 pm => encodeFields 0x12#8 pm
  | .preemph => encodeFields 0x13#8 0#3
  | .c2l => encodeFields 0x20#8 0#3
  | .l2c => encodeFields 0x21#8 0#3
  | .lnoise => encodeFields 0x30#8 0#3
  | .cnoise => encodeFields 0x31#8 0#3
  | .pnoise => encodeFields 0x32#8 0#3
  | .dropout => encodeFields 0x33#8 0#3

/-- The `nbits` low bits of `w` as a command word, every higher bit 0. A command is written to `CMD` as one whole
32-bit word, so there is no byte order to lay it out in (20_memory.md R64). -/
def commandWord (nbits w : Nat) : Word := BitVec.ofNat 32 (w % 2 ^ nbits)

/-- The instruction the decoder reads from the word whose low `nbits` bits are `w`. -/
def decodeTableWord (nbits w : Nat) : Option Instr :=
  match decode (commandWord nbits w) with
  | .ok i => some i
  | .error _ => none

end Sys2Proof
end

