-- ==== Sys2Proof/Machine/Arith.lean ====
section
/-! DEFINITION. The arithmetic primitives of 00_scope.md R7: every value is an unbounded integer (R6, R15). -/

namespace Sys2Proof.Machine

/-- `fdiv(a, b)` = floor(a / b) for `b > 0` (00_scope.md R7). Lean's integer division rounds toward minus infinity
for a positive divisor. -/
def fdiv (a b : Int) : Int := a / b

/-- `tdiv(a, b)`: truncation toward zero (00_scope.md R7). -/
def tdiv (a b : Int) : Int := if 0 ≤ a then fdiv a b else -fdiv (-a) b

/-- `rdiv(a, b)`: nearest integer, ties toward plus infinity (00_scope.md R7). -/
def rdiv (a b : Int) : Int := fdiv (2 * a + b) (2 * b)

/-- `a mod n` for `n > 0`: the floor remainder, in 0..n-1 (00_scope.md R6). -/
def fmod (a : Int) (n : Nat) : Nat := (a % (n : Int)).toNat

end Sys2Proof.Machine
end

