-- ==== Sys2Proof/Config.lean ====
section
/-! DEFINITION. What an implementation of the core fixes: the OPEN parameters of 00_scope.md R5 that a rule of the
core reads. A state carries one `Config`, which no step writes (log 1), so every statement about all states holds
for every choice of the parameters. -/

namespace Sys2Proof

/-- Which implementation of an OPEN function an implementation has (00_scope.md R5): the spec's reference one, or
some other one of which nothing is known. -/
inductive OpenChoice where
  | reference
  | other (id : Nat)
  deriving DecidableEq, Repr

/-- The parameters marked OPEN in 00_scope.md R5, less those no rule of the core depends on (`alphaOf`, the base
addresses, `BUS`; logs 7 and 8). The matrix constants are hundredths (forward) and thousandths (inverse) as in
40_colorspace.md R100. -/
structure Config where
  hmax : Nat
  wmax : Nat
  kib : Int
  kir : Int
  kqb : Int
  kqr : Int
  kri : Int
  krq : Int
  kgi : Int
  kgq : Int
  kbi : Int
  kbq : Int
  prng : OpenChoice
  sincos : OpenChoice
  deriving DecidableEq, Repr

/-- The bounds on the parameters: `HMAX` and `WMAX` each in 1..65535 (00_scope.md R5), and forward chroma constants
for which every `TOYIQ` result is a 32-bit value, as 10_state.md R49 says it is (DESIGN CHOICE, log 10). -/
def Config.wf (c : Config) : Bool :=
  decide (1 ≤ c.hmax) && decide (c.hmax ≤ 65535) && decide (1 ≤ c.wmax) && decide (c.wmax ≤ 65535) &&
  decide (c.kib.natAbs + c.kir.natAbs ≤ 3000000) && decide (c.kqb.natAbs + c.kqr.natAbs ≤ 3000000)

/-- `prng_next` of an implementation that does not have the reference generator (43_noise.md R161): a free value
(log 2). -/
opaque otherPrngNext : Nat → Word → Word

/-- `prng_out` of an implementation that does not have the reference generator (43_noise.md R162): a free value
(log 2). -/
opaque otherPrngOut : Nat → Word → Nat

/-- The 200 entries of the table `SINCOS`, cosine then sine, of an implementation that does not have the reference
table (43_noise.md R171): a free value (log 2). -/
opaque otherSincos : Nat → Fin 200 → BitVec 16 × BitVec 16

end Sys2Proof
end

