-- ==== Sys2Proof/Machine/Reference.lean ====
section
/-! DEFINITION. The reference values of the OPEN parameters (00_scope.md R5; 40_colorspace.md R100). -/

namespace Sys2Proof.Machine

/-- The configuration every vector of 95_test_vectors.md uses: `HMAX = WMAX = 1024`, the matrix constants of
40_colorspace.md R100, the generator of 43_noise.md R161 and the table of R171. -/
def referenceConfig : Config where
  hmax := 1024
  wmax := 1024
  kib := -27
  kir := 74
  kqb := 41
  kqr := 48
  kri := 956
  krq := 621
  kgi := -272
  kgq := -647
  kbi := -1106
  kbq := 1703
  prng := .reference
  sincos := .reference

end Sys2Proof.Machine
end

