-- ==== Sys2Proof/Machine/State.lean ====
section
/-! DEFINITION. The state of the core (10_state.md R20 to R54), the host's transactions (20_memory.md R65) and the
reasons a step of the model can stop. -/

namespace Sys2Proof.Machine

/-- The three planes of plane memory (10_state.md R51). -/
inductive Plane where
  | y
  | i
  | q
  deriving DecidableEq, Repr

/-- The two frame memories (10_state.md R50). -/
inductive Frame where
  | src
  | dst
  deriving DecidableEq, Repr

/-- The 25 registers of the register file (10_state.md R22 to R46), in the order of their offsets. -/
inductive Reg where
  | id
  | cmd
  | status
  | err
  | errcmd
  | cmdcnt
  | srcH
  | srcW
  | dstH
  | dstW
  | plH
  | plW
  | field
  | fieldNo
  | phaseMode
  | phaseOffset
  | scAmpl
  | fltAlpha
  | fltReset
  | preAmt
  | lnoiseAmp
  | cnoiseAmp
  | pnoiseAmp
  | chromaLoss
  | prngState
  deriving DecidableEq, Repr

/-- What the outside world can do to the core: the six transactions of 20_memory.md R65, and reset
(70_reset_and_hazards.md R230). -/
inductive HostOp where
  /-- `HostWriteReg(off, w)`; with offset 0x04 it issues the command `w`. -/
  | writeReg (off : Nat) (w : Word)
  /-- `HostReadReg(off)`. -/
  | readReg (off : Nat)
  /-- `HostWriteByte(space, k, v)`. -/
  | writeByte (f : Frame) (k : Nat) (v : Byte)
  /-- `HostReadByte(space, k)`. -/
  | readByte (f : Frame) (k : Nat)
  /-- `HostWriteSample(p, k, v)`. -/
  | writeSample (p : Plane) (k : Nat) (v : Sample)
  /-- `HostReadSample(p, k)`. -/
  | readSample (p : Plane) (k : Nat)
  /-- The reset event from outside. -/
  | reset
  deriving DecidableEq, Repr

/-- What a read of the host returns. -/
inductive HostValue where
  | word (w : Word)
  | byte (v : Byte)
  | sample (v : Sample)
  deriving DecidableEq, Repr

/-- The three codes of the core's own faults (60_exceptions.md R200). Taking one is a next state, not a stop. -/
inductive FaultCode where
  | illegalCmd
  | shape
  | invalidArg
  deriving DecidableEq, Repr

/-- Reasons for which a step stops with a fault of the MODEL. None is a fault of the core (10_state.md R55,
93_implementation_defined.md U1). -/
inductive Fault where
  /-- A byte of a frame memory that nothing has written since reset was read, by `TOYIQ` or by the host. Safe: the
  spec says a model refuses the read. -/
  | unwrittenByte (f : Frame) (k : Nat)
  /-- A sample of a plane that nothing has written since reset was read, by a command or by the host. Safe: the
  spec says a model refuses the read. -/
  | unwrittenSample (p : Plane) (k : Nat)
  deriving DecidableEq, Repr

/-- Reasons for which a step has no meaning. -/
inductive Refusal where
  /-- An instruction that exec rejects by name because it has no meaning yet. Safe. No arm raises it now. -/
  | notModelled (mnemonic : String)
  /-- The host's register access is not at a multiple of 4 inside 0x00..0xFC (10_state.md R47,
  93_implementation_defined.md U3). Safe: it is not a transaction of the interface. -/
  | badOffset (off : Nat)
  /-- The host's access to a frame byte has an index outside the memory (20_memory.md R65,
  93_implementation_defined.md U3). Safe: it is not a transaction of the interface. -/
  | noSuchByte (f : Frame) (k : Nat)
  /-- The host's access to a plane sample has an index outside the memory (20_memory.md R65,
  93_implementation_defined.md U3). Safe: it is not a transaction of the interface. -/
  | noSuchSample (p : Plane) (k : Nat)
  /-- A line of a host script has a value that fits no transaction: a register word beyond 32 bits or a sample outside
  the range of 20_memory.md R65 (DESIGN CHOICE, log 13). Raised by `runScript` alone, never by a step. Safe: R65 has
  no such transaction. -/
  | noSuchValue (value : Int)
  deriving DecidableEq, Repr

/-- A memory of `w`-bit units: the written locations, addresses strictly rising. An address that is not listed has
never been written since reset and has no value (10_state.md R55, log 6). -/
abbrev Memory (w : Nat) := List (Nat × BitVec w)

/-- The whole state. The first group is the register file, one field per register that stores something, of the
register's own width; the second the memories; the third the model's own fields (logs 1 and 3). -/
structure State where
  /-- `STATUS.SAT` (10_state.md R24). -/
  sat : Bool
  /-- `ERR.CODE` (10_state.md R25). -/
  errCode : BitVec 8
  /-- `ERRCMD` (10_state.md R26). -/
  errCmd : Word
  /-- `CMDCNT` (10_state.md R27). -/
  cmdCnt : Word
  /-- `SRC_H` (10_state.md R28). -/
  srcH : BitVec 16
  /-- `SRC_W` (10_state.md R29). -/
  srcW : BitVec 16
  /-- `DST_H` (10_state.md R30). -/
  dstH : BitVec 16
  /-- `DST_W` (10_state.md R31). -/
  dstW : BitVec 16
  /-- `PL_H` (10_state.md R32). -/
  plH : BitVec 16
  /-- `PL_W` (10_state.md R33). -/
  plW : BitVec 16
  /-- `FIELD` (10_state.md R34). -/
  field : BitVec 1
  /-- `FIELDNO` (10_state.md R35). -/
  fieldNo : BitVec 32
  /-- `PHASE_MODE` (10_state.md R36). -/
  phaseMode : BitVec 3
  /-- `PHASE_OFFSET` (10_state.md R37). -/
  phaseOffset : BitVec 32
  /-- `SC_AMPL` (10_state.md R38). -/
  scAmpl : BitVec 16
  /-- `FLT_ALPHA` (10_state.md R39). -/
  fltAlpha : BitVec 16
  /-- `FLT_RESET` (10_state.md R40). -/
  fltReset : BitVec 32
  /-- `PRE_AMT` (10_state.md R41). -/
  preAmt : BitVec 16
  /-- `LNOISE_AMP` (10_state.md R42). -/
  lnoiseAmp : BitVec 16
  /-- `CNOISE_AMP` (10_state.md R43). -/
  cnoiseAmp : BitVec 16
  /-- `PNOISE_AMP` (10_state.md R44). -/
  pnoiseAmp : BitVec 16
  /-- `CHROMA_LOSS` (10_state.md R45). -/
  chromaLoss : BitVec 32
  /-- `PRNG_STATE` (10_state.md R46). -/
  prngState : BitVec 32
  /-- Frame memory `SRC` (10_state.md R50). -/
  src : List Host.Cell
  /-- Frame memory `DST` (10_state.md R50). -/
  dst : List Host.Cell
  /-- Plane `Y` (10_state.md R51). -/
  planeY : Memory 32
  /-- Plane `I` (10_state.md R51). -/
  planeI : Memory 32
  /-- Plane `Q` (10_state.md R51). -/
  planeQ : Memory 32
  /-- The OPEN parameters of this implementation, which no step writes (00_scope.md R5, R14; log 1). -/
  cfg : Config
  /-- The host's transactions still to come, the next one first (00_scope.md R14; log 3). -/
  script : List HostOp
  /-- What the host's latest read returned (log 3). -/
  response : Option HostValue
  deriving DecidableEq, Repr

/-- The machine right after reset: the table of 10_state.md R54, every memory location unwritten
(70_reset_and_hazards.md R230). The reference configuration and the empty script are the model's (logs 1 and 3). -/
def State.reset : State where
  sat := false
  errCode := 0#8
  errCmd := 0#32
  cmdCnt := 0#32
  srcH := 0#16
  srcW := 0#16
  dstH := 0#16
  dstW := 0#16
  plH := 0#16
  plW := 0#16
  field := 0#1
  fieldNo := 0#32
  phaseMode := 0#3
  phaseOffset := 0#32
  scAmpl := 0#16
  fltAlpha := 0#16
  fltReset := 0#32
  preAmt := 0#16
  lnoiseAmp := 0#16
  cnoiseAmp := 0#16
  pnoiseAmp := 0#16
  chromaLoss := 0#32
  prngState := 0#32
  src := []
  dst := []
  planeY := []
  planeI := []
  planeQ := []
  cfg := referenceConfig
  script := []
  response := none

end Sys2Proof.Machine
end

