-- ==== Sys2Proof/Machine/Flags.lean ====
section
/-! DEFINITION. Saturation, clipping and the status bits (00_scope.md R8; 10_state.md R24, R49). -/

namespace Sys2Proof.Machine

/-- The largest plane sample, `2^31 - 1` (00_scope.md R5). -/
def sampleMax : Int := 2147483647

/-- The smallest plane sample, `-2^31` (00_scope.md R5). -/
def sampleMin : Int := -2147483648

/-- `sat32(v)` (00_scope.md R8). -/
def sat32 (v : Int) : Int := if sampleMax < v then sampleMax else if v < sampleMin then sampleMin else v

/-- Whether `sat32(v)` clamps, which sets `STATUS.SAT` (00_scope.md R8). -/
def clamps (v : Int) : Bool := decide (sampleMax < v) || decide (v < sampleMin)

/-- `clip8(v)`, which sets no flag (00_scope.md R8). -/
def clip8 (v : Int) : Int := if v < 0 then 0 else if 255 < v then 255 else v

/-- `STATUS.SAT` is sticky: an evaluation that clamps sets it, none clears it (10_state.md R24). -/
def State.noteSat (s : State) (b : Bool) : State := { s with sat := s.sat || b }

/-- `STATUS.ERRF`: 1 exactly when a fault is latched; computed, not stored (10_state.md R24). -/
def State.errFlag (s : State) : Bool := s.errCode != 0#8

/-- `STATUS.BUSY`: the host observes the core between commands only, so it reads 0 (10_state.md R24; log 5). -/
def busyBit : Bool := false

/-- The word a read of `STATUS` returns (44_system.md R192). -/
def State.statusWord (s : State) : Word :=
  (BitVec.ofBool s.sat).setWidth 32 <<< 2 ||| (BitVec.ofBool s.errFlag).setWidth 32 <<< 1 |||
    (BitVec.ofBool busyBit).setWidth 32

end Sys2Proof.Machine
end

