-- ==== Sys2Proof/Machine/Operands.lean ====
section
/-! DEFINITION. How a command reads its operands (30_encoding.md R82, R83): field rows, the plane mask, valid
geometry, the signed registers, and the scanline phase of the subcarrier. -/

namespace Sys2Proof.Machine

/-- `rows(f, h)`: the rows of field `f` of a frame of height `h`, ascending (00_scope.md R10). -/
def fieldRows (f h : Nat) : List Nat := (List.range h).filter (fun y => y % 2 == f)

/-- The rows a field-row command works on: `rows(reg[FIELD], reg[PL_H])` (00_scope.md R10). -/
def State.rows (s : State) : List Nat := fieldRows s.field.toNat s.plH.toNat

/-- Whether a plane's mask bit is 1: bit 0 for `Y`, bit 1 for `I`, bit 2 for `Q` (30_encoding.md R80). -/
def planeSelected (pm : BitVec 3) : Plane → Bool
  | .y => pm.getLsbD 0
  | .i => pm.getLsbD 1
  | .q => pm.getLsbD 2

/-- The planes of a mask in the order `Y`, `I`, `Q` (30_encoding.md R82). -/
def maskPlanes (pm : BitVec 3) : List Plane := [Plane.y, Plane.i, Plane.q].filter (planeSelected pm)

/-- A height register value is valid when it is in 1..HMAX (44_system.md R195). -/
def validHeight (c : Config) (h : BitVec 16) : Bool := decide (1 ≤ h.toNat) && decide (h.toNat ≤ c.hmax)

/-- A width register value is valid when it is in 1..WMAX (44_system.md R195). -/
def validWidth (c : Config) (w : BitVec 16) : Bool := decide (1 ≤ w.toNat) && decide (w.toNat ≤ c.wmax)

/-- The plane shape is valid (10_state.md R32, R33). -/
def State.planeShapeValid (s : State) : Bool := validHeight s.cfg s.plH && validWidth s.cfg s.plW

/-- The shape of the frame in `SRC` is valid (10_state.md R28, R29). -/
def State.srcShapeValid (s : State) : Bool := validHeight s.cfg s.srcH && validWidth s.cfg s.srcW

/-- The filter coefficient `A`, unsigned (10_state.md R39). -/
def State.alpha (s : State) : Int := s.fltAlpha.toNat

/-- `sext_32(reg[FLT_RESET])` (10_state.md R40). -/
def State.resetValue (s : State) : Int := s.fltReset.toInt

/-- `sext_16(reg[PRE_AMT])`, the amount times 256 (10_state.md R41). -/
def State.preAmount (s : State) : Int := s.preAmt.toInt

/-- The scanline phase `xi(y)`, in 0..3 (42_subcarrier.md R141; the parentheses of mode 2: log 9). Modes 4 to 7 are
unknown; `C2L` and `L2C` fault on them before they ask for a phase (R140). -/
def State.xi (s : State) (y : Nat) : Nat :=
  let fn := s.fieldNo.toNat
  let off := s.phaseOffset.toNat
  match s.phaseMode.toNat with
  | 0 => off % 4
  | 1 => (fn + off + y / 2) % 4
  | 2 => (((fn + y) % 4 &&& 2) + off) % 4
  | _ => fmod ((fn : Int) + off - (y / 2 : Nat)) 4

end Sys2Proof.Machine
end

