-- ==== Sys2Proof/Machine/Ops.lean ====
section
/-! DEFINITION. The named operations every command is made of: the memories and their primitives (20_memory.md R63),
rows of samples (R67), taking a fault and returning from one (60_exceptions.md R204, R205), and the order in which
one command is evaluated (30_encoding.md R89; 44_system.md R190). -/

namespace Sys2Proof.Machine

/-! ### One memory -/

/-- What an address holds: `none` where nothing has been written since reset (10_state.md R55; log 6). -/
def memGet {w : Nat} : Memory w → Nat → Option (BitVec w)
  | [], _ => none
  | (b, v) :: m, a => if a = b then some v else memGet m a

/-- Write one unit, keeping the addresses strictly rising. -/
def memSet {w : Nat} : Memory w → Nat → BitVec w → Memory w
  | [], a, v => [(a, v)]
  | (b, u) :: m, a, v =>
    if a < b then (a, v) :: (b, u) :: m
    else if a = b then (a, v) :: m
    else (b, u) :: memSet m a v

/-- Every address is above `lo`, and they rise strictly. -/
def memWfAbove {w : Nat} (lo : Nat) : Memory w → Bool
  | [] => true
  | (b, _) :: m => decide (lo ≤ b) && memWfAbove (b + 1) m

/-- The canonical form: addresses strictly rising. An unlisted address has no value, so no entry can equal what an
unlisted address reads as. -/
def memWf {w : Nat} (m : Memory w) : Bool := memWfAbove 0 m

/-- Every listed address is below the memory's size. -/
def memBelow {w : Nat} (size : Nat) (m : Memory w) : Bool := m.all (fun e => decide (e.1 < size))

/-- Write successive units from address `a` on. -/
def memSetRun {w : Nat} : Memory w → Nat → List (BitVec w) → Memory w
  | m, _, [] => m
  | m, a, v :: vs => memSetRun (memSet m a v) (a + 1) vs

/-- Read the `n` successive units from address `a` on; the first address that holds nothing stops the read. -/
def memGetRun {w : Nat} (m : Memory w) (stop : Nat → Fault) : Nat → Nat → Except Fault (List (BitVec w))
  | _, 0 => .ok []
  | a, n + 1 =>
    match memGet m a with
    | none => .error (stop a)
    | some v =>
      match memGetRun m stop (a + 1) n with
      | .error e => .error e
      | .ok vs => .ok (v :: vs)

/-! ### The memories of the core -/

/-- A plane's contents. -/
def State.plane (s : State) : Plane → Memory 32
  | .y => s.planeY
  | .i => s.planeI
  | .q => s.planeQ

/-- Replace a plane's contents. -/
def State.setPlane (s : State) (p : Plane) (m : Memory 32) : State :=
  match p with
  | .y => { s with planeY := m }
  | .i => { s with planeI := m }
  | .q => { s with planeQ := m }

/-- A frame memory's contents. -/
def State.frame (s : State) : Frame → Memory 8
  | .src => s.src
  | .dst => s.dst

/-- Replace a frame memory's contents. -/
def State.setFrame (s : State) (f : Frame) (m : Memory 8) : State :=
  match f with
  | .src => { s with src := m }
  | .dst => { s with dst := m }

/-- The number of bytes of a frame memory (20_memory.md R60). -/
def frameSize (c : Config) : Nat := 3 * c.hmax * c.wmax

/-- The number of samples of a plane (20_memory.md R60). -/
def planeSize (c : Config) : Nat := c.hmax * c.wmax

/-- The index of the sample at row `r`, column `c` of a plane (10_state.md R51; 44_system.md R198). -/
def State.planeIndex (s : State) (r c : Nat) : Nat := r * s.plW.toNat + c

/-- The index of a channel of the pixel at row `r`, column `c` of `SRC`: 0 blue, 1 green, 2 red
(20_memory.md R62). -/
def State.srcIndex (s : State) (r c ch : Nat) : Nat := (r * s.srcW.toNat + c) * 3 + ch

/-- The index of a channel of the pixel at row `r`, column `c` of `DST` (20_memory.md R62). -/
def State.dstIndex (s : State) (r c ch : Nat) : Nat := (r * s.dstW.toNat + c) * 3 + ch

/-- What a plane holds at row `r`, column `c`, as a signed integer. -/
def State.sampleAt (s : State) (p : Plane) (r c : Nat) : Option Int :=
  (memGet (s.plane p) (s.planeIndex r c)).map BitVec.toInt

/-- Byte `a`, counted from the plane's base, of a plane mapped onto a byte-addressed bus: sample `a / 4`, least
significant byte at the lowest address (20_memory.md R64). -/
def State.planeByte (s : State) (p : Plane) (a : Nat) : Option Byte :=
  (memGet (s.plane p) (a / 4)).map (fun v => v.extractLsb' (8 * (a % 4)) 8)

/-! ### Rows -/

/-- `SrcRead(r, c, 0..2)` for the columns `c .. c+n-1` of a row: blue, green, red of each pixel
(20_memory.md R63). -/
def State.readPixels (s : State) (r : Nat) : Nat → Nat → Except Fault (List (Int × Int × Int))
  | _, 0 => .ok []
  | c, n + 1 =>
    match memGetRun s.src (Fault.unwrittenByte .src) (s.srcIndex r c 0) 3 with
    | .ok [b, g, rd] =>
      match s.readPixels r (c + 1) n with
      | .error e => .error e
      | .ok ps => .ok (((b.toNat : Int), (g.toNat : Int), (rd.toNat : Int)) :: ps)
    | .ok _ => .error (.unwrittenByte .src (s.srcIndex r c 0))
    | .error e => .error e

/-- A copy of a plane's row under the current `PL_W` (20_memory.md R63, R67). -/
def State.readRow (s : State) (p : Plane) (r : Nat) : Except Fault (List Int) :=
  match memGetRun (s.plane p) (Fault.unwrittenSample p) (s.planeIndex r 0) s.plW.toNat with
  | .error e => .error e
  | .ok vs => .ok (vs.map BitVec.toInt)

/-- `PlWrite` of each value along a row, for values that are in range (20_memory.md R63). -/
def State.writeRow (s : State) (p : Plane) (r : Nat) (vs : List Int) : State :=
  s.setPlane p (memSetRun (s.plane p) (s.planeIndex r 0) (vs.map (BitVec.ofInt 32)))

/-- `PlWrite` of `sat32` of each value along a row; a clamp sets `STATUS.SAT` (00_scope.md R8). -/
def State.writeRowSat (s : State) (p : Plane) (r : Nat) (vs : List Int) : State :=
  (s.writeRow p r (vs.map sat32)).noteSat (vs.any clamps)

/-- `DstWrite` of the three channels of each pixel along a row: blue, green, red (20_memory.md R63). -/
def State.writePixels (s : State) (r : Nat) (ps : List (Int × Int × Int)) : State :=
  s.setFrame .dst (memSetRun s.dst (s.dstIndex r 0 0)
    (ps.flatMap (fun p => [BitVec.ofInt 8 p.1, BitVec.ofInt 8 p.2.1, BitVec.ofInt 8 p.2.2])))

/-- Do `f` for each element in order; the first that stops ends the whole. -/
def forEach {α σ : Type} (f : α → σ → Except Fault σ) : List α → σ → Except Fault σ
  | [], st => .ok st
  | x :: xs, st =>
    match f x st with
    | .error e => .error e
    | .ok st' => forEach f xs st'

/-- Replace a plane's row by a function of it, storing without saturation. -/
def mapRow (p : Plane) (g : List Int → List Int) (r : Nat) (s : State) : Except Fault State :=
  match s.readRow p r with
  | .error e => .error e
  | .ok xs => .ok (s.writeRow p r (g xs))

/-- Replace a plane's row by `sat32` of a function of it. -/
def mapRowSat (p : Plane) (g : List Int → List Int) (r : Nat) (s : State) : Except Fault State :=
  match s.readRow p r with
  | .error e => .error e
  | .ok xs => .ok (s.writeRowSat p r (g xs))

/-! ### Faults of the core -/

/-- The code `ERR.CODE` holds for a fault (60_exceptions.md R200). -/
def faultCode : FaultCode → BitVec 8
  | .illegalCmd => 1#8
  | .shape => 2#8
  | .invalidArg => 3#8

/-- Taking a fault while the command word `w` executes: `ERR.CODE` gets the code, `ERRCMD` the word, and nothing
else changes (60_exceptions.md R204). There is no handler and no program counter. -/
def State.raiseFault (s : State) (code : FaultCode) (w : Word) : State :=
  { s with errCode := faultCode code, errCmd := w }

/-- Returning from a fault: the host's write to `ERR` clears `ERR.CODE` and `ERRCMD`; nothing is restored
(60_exceptions.md R205). -/
def State.ackFault (s : State) : State := { s with errCode := 0#8, errCmd := 0#32 }

/-! ### One command -/

/-- The end of a command that completes: `CMDCNT` plus 1 modulo `2^32` (10_state.md R27; 44_system.md R190 step 6). -/
def State.complete (s : State) : State := { s with cmdCnt := s.cmdCnt + 1#32 }

/-- The order of evaluation of one command (30_encoding.md R89; 44_system.md R190): the latched-fault test, the
checks (`check` is the first that fails), the no-op test, the effects, the count. The legality test comes before: a
word that is illegal has no instruction (`issueIllegal`). -/
def runCommand (i : Instr) (check : Option FaultCode) (noop : Bool) (effect : State → Except Fault State)
    (s : State) : Host.Outcome State Fault Refusal :=
  if s.errCode ≠ 0#8 then .next s
  else
    match check with
    | some code => .next (s.raiseFault code (encode i))
    | none =>
      if noop then .next s.complete
      else
        match effect s with
        | .ok t => .next t.complete
        | .error e => .fault e

/-- The issue of an illegal word: discarded while a fault is latched, else it raises `E_ILLEGAL_CMD`
(44_system.md R190 steps 1 and 2; 60_exceptions.md R201). -/
def issueIllegal (w : Word) (s : State) : State :=
  if s.errCode ≠ 0#8 then s else s.raiseFault .illegalCmd w

/-- The check of the commands that work on the planes: a valid plane shape (44_system.md R195). -/
def planeCheck (s : State) : Option FaultCode := if s.planeShapeValid then none else some .invalidArg

end Sys2Proof.Machine
end

