-- ==== Sys2Proof/Machine/Colour.lean ====
section
/-! DEFINITION. The colour-space converter: `TOYIQ` and `FROMYIQ` (40_colorspace.md R100 to R102). -/

namespace Sys2Proof.Machine

/-- The luma weights `KYR`, `KYG`, `KYB` applied to a pixel: 100 times the luma (40_colorspace.md R100, R101). -/
def lumaSum (b g r : Int) : Int := 30 * r + 59 * g + 11 * b

/-- One pixel, blue, green, red, to `Y`, `I`, `Q`, each rounded once (40_colorspace.md R101). -/
def toYiq (c : Config) (b g r : Int) : Int × Int × Int :=
  let sm := lumaSum b g r
  (rdiv (256 * sm) 100,
   rdiv (256 * (c.kib * (100 * b - sm) + c.kir * (100 * r - sm))) 10000,
   rdiv (256 * (c.kqb * (100 * b - sm) + c.kqr * (100 * r - sm))) 10000)

/-- One `Y`, `I`, `Q` to a pixel, blue, green, red, each channel clipped (40_colorspace.md R102). -/
def fromYiq (c : Config) (y i q : Int) : Int × Int × Int :=
  (clip8 (rdiv (1000 * y + c.kbi * i + c.kbq * q) 256000),
   clip8 (rdiv (1000 * y + c.kgi * i + c.kgq * q) 256000),
   clip8 (rdiv (1000 * y + c.kri * i + c.krq * q) 256000))

/-- The checks of `TOYIQ` in order: equal frame shapes, then a valid one (40_colorspace.md R101). -/
def toyiqCheck (s : State) : Option FaultCode :=
  if (s.srcH, s.srcW) ≠ (s.dstH, s.dstW) then some .shape
  else if s.srcShapeValid then none else some .invalidArg

/-- `TOYIQ` of one row, under the plane width already set (40_colorspace.md R101). -/
def toyiqRow (r : Nat) (s : State) : Except Fault State :=
  match s.readPixels r 0 s.srcW.toNat with
  | .error e => .error e
  | .ok ps =>
    let out := ps.map (fun p => toYiq s.cfg p.1 p.2.1 p.2.2)
    .ok (((s.writeRow .y r (out.map (fun o => o.1))).writeRow .i r (out.map (fun o => o.2.1))).writeRow .q r
      (out.map (fun o => o.2.2)))

/-- The planes take the frame's shape (40_colorspace.md R101; 10_state.md R32, R33). -/
def State.takeSrcShape (s : State) : State := { s with plH := s.srcH, plW := s.srcW }

/-- The effect of `TOYIQ`: the shape, then every row (40_colorspace.md R101). -/
def toyiqEffect (s : State) : Except Fault State :=
  forEach toyiqRow (List.range s.srcH.toNat) s.takeSrcShape

/-- `TOYIQ`: the whole `SRC` frame to the three planes (40_colorspace.md R101). -/
def execToyiq (s : State) : Host.Outcome State Fault Refusal :=
  runCommand .toyiq (toyiqCheck s) false toyiqEffect s

/-- The checks of `FROMYIQ` in order: `DST` has the planes' shape, then that shape is valid (40_colorspace.md R102). -/
def fromyiqCheck (s : State) : Option FaultCode :=
  if (s.dstH, s.dstW) ≠ (s.plH, s.plW) then some .shape
  else if s.planeShapeValid then none else some .invalidArg

/-- `FROMYIQ` of one row (40_colorspace.md R102). -/
def fromyiqRow (r : Nat) (s : State) : Except Fault State :=
  match s.readRow .y r with
  | .error e => .error e
  | .ok ys =>
    match s.readRow .i r with
    | .error e => .error e
    | .ok is =>
      match s.readRow .q r with
      | .error e => .error e
      | .ok qs => .ok (s.writePixels r ((ys.zip (is.zip qs)).map (fun t => fromYiq s.cfg t.1 t.2.1 t.2.2)))

/-- `FROMYIQ`: the field rows of the planes back to pixels of `DST` (40_colorspace.md R102). -/
def execFromyiq (s : State) : Host.Outcome State Fault Refusal :=
  runCommand .fromyiq (fromyiqCheck s) false (fun t => forEach fromyiqRow t.rows t) s

end Sys2Proof.Machine
end

