-- ==== Sys2Proof/Machine/Filter.lean ====
section
/-! DEFINITION. The filter unit: `LPF`, `HPF`, `LPF3`, `PREEMPH` (41_filters.md R120 to R126). -/

namespace Sys2Proof.Machine

/-- One update of the filter state `P`, which holds the output times `2^16` (41_filters.md R121). -/
def lpStep (a x st : Int) : Int := fdiv (a * (x * 65536) + (65536 - a) * st) 65536

/-- The recurrence from filter state `st` on (41_filters.md R121). -/
def lpFrom (a : Int) : Int → List Int → List Int
  | _, [] => []
  | st, x :: xs => rdiv (lpStep a x st) 65536 :: lpFrom a (lpStep a x st) xs

/-- `lp_row(x, A, v0)`: the filter state starts at the reset value (41_filters.md R121). -/
def lpRow (a v0 : Int) (xs : List Int) : List Int := lpFrom a (v0 * 65536) xs

/-- Apply a row operation to the field rows of the masked planes, planes in the order `Y`, `I`, `Q`
(30_encoding.md R82; 41_filters.md R120). -/
def filterPlanes (pm : BitVec 3) (op : Plane → Nat → State → Except Fault State) (s : State) : Except Fault State :=
  forEach (fun p t => forEach (op p) s.rows t) (maskPlanes pm) s

/-- `LPF`: one low-pass pass (41_filters.md R123). The result needs no saturation (R127). -/
def execLpf (pm : BitVec 3) (s : State) : Host.Outcome State Fault Refusal :=
  runCommand (.lpf pm) (planeCheck s) false
    (filterPlanes pm (fun p => mapRow p (lpRow s.alpha s.resetValue))) s

/-- The high-pass of a row: the row minus its low-pass (41_filters.md R124). -/
def hpRow (a v0 : Int) (xs : List Int) : List Int := List.zipWith (fun x l => x - l) xs (lpRow a v0 xs)

/-- `HPF`: one high-pass pass, saturating (41_filters.md R124). -/
def execHpf (pm : BitVec 3) (s : State) : Host.Outcome State Fault Refusal :=
  runCommand (.hpf pm) (planeCheck s) false
    (filterPlanes pm (fun p => mapRowSat p (hpRow s.alpha s.resetValue))) s

/-- Three passes, each from the same reset value, each rounded to integers before the next (41_filters.md R125). -/
def lp3Row (a v0 : Int) (xs : List Int) : List Int := lpRow a v0 (lpRow a v0 (lpRow a v0 xs))

/-- `LPF3`: the three-pass cascade (41_filters.md R125). -/
def execLpf3 (pm : BitVec 3) (s : State) : Host.Outcome State Fault Refusal :=
  runCommand (.lpf3 pm) (planeCheck s) false
    (filterPlanes pm (fun p => mapRow p (lp3Row s.alpha s.resetValue))) s

/-- The reset value of the pre-emphasis filter, a constant of the source (41_filters.md R126). -/
def preemphReset : Int := 16

/-- Pre-emphasis of a row: the row plus its high-pass times the amount, before saturation (41_filters.md R126). -/
def preemphRow (a m : Int) (xs : List Int) : List Int :=
  List.zipWith (fun x l => x + rdiv ((x - l) * m) 256) xs (lpRow a preemphReset xs)

/-- `PREEMPH`: composite pre-emphasis of plane `Y` (41_filters.md R126). -/
def execPreemph (s : State) : Host.Outcome State Fault Refusal :=
  runCommand .preemph (planeCheck s) false
    (fun t => forEach (mapRowSat .y (preemphRow s.alpha s.preAmount)) t.rows t) s

end Sys2Proof.Machine
end

