-- ==== Sys2Proof/Machine/Prng.lean ====
section
/-! DEFINITION. The pseudorandom generator and the halving random walk (43_noise.md R160 to R163). -/

namespace Sys2Proof.Machine

/-- `prng_next`: the state transition. The reference one is the linear congruential generator of 43_noise.md R161;
any other is a free value (log 2). -/
def prngNext (c : Config) (st : Word) : Word :=
  match c.prng with
  | .reference => st * 1664525#32 + 1013904223#32
  | .other id => otherPrngNext id st

/-- `prng_out`: the output function. The reference one drops the low 8 bits (43_noise.md R162). -/
def prngOut (c : Config) (st : Word) : Nat :=
  match c.prng with
  | .reference => st.toNat / 256
  | .other id => otherPrngOut id st

/-- `draw(n)`: the value drawn, in 0..n-1, and the new state (43_noise.md R162). -/
def draw (c : Config) (n : Nat) (st : Word) : Nat × Word :=
  (prngOut c (prngNext c st) % n, prngNext c st)

/-- One step of the halving random walk from accumulator `acc`: the new accumulator and the new generator state
(43_noise.md R163). -/
def walkStep (c : Config) (amp : Nat) (acc : Int) (st : Word) : Int × Word :=
  (tdiv (acc + ((draw c (2 * amp + 1) st).1 - amp)) 2, (draw c (2 * amp + 1) st).2)

/-- The accumulators of `n` successive steps, and the generator state after them (43_noise.md R163, R164). -/
def walk (c : Config) (amp : Nat) : Nat → Int → Word → List Int × Word
  | 0, _, st => ([], st)
  | n + 1, acc, st =>
    let a := walkStep c amp acc st
    let rest := walk c amp n a.1 a.2
    (a.1 :: rest.1, rest.2)

end Sys2Proof.Machine
end

