-- ==== Sys2Proof/Machine/Sincos.lean ====
section
/-! DEFINITION. The rotation coefficient table `SINCOS` (10_state.md R53; 43_noise.md R171). -/

namespace Sys2Proof.Machine

/-- The quarter table `COSQ[0..50]` in Q1.14 (43_noise.md R171). -/
def cosQuarter : List Int :=
  [16384, 16376, 16352, 16311, 16255, 16182, 16094, 15989, 15869, 15733,
   15582, 15415, 15233, 15036, 14825, 14598, 14357, 14102, 13833, 13551] ++
  [13255, 12946, 12624, 12290, 11943, 11585, 11216, 10835, 10444, 10042,
   9630, 9209, 8779, 8340, 7893, 7438, 6976, 6507, 6031, 5550] ++
  [5063, 4571, 4075, 3574, 3070, 2563, 2053, 1542, 1029, 515, 0]

/-- Entry `k` of the quarter table. -/
def cosQ (k : Nat) : Int := cosQuarter.getD k 0

/-- `COS[k]` of the reference table, by the symmetries of 43_noise.md R171. -/
def refCos (k : Nat) : Int :=
  if k ≤ 50 then cosQ k
  else if k ≤ 100 then -cosQ (100 - k)
  else if k ≤ 150 then -cosQ (k - 100)
  else cosQ (200 - k)

/-- `SIN[k]` of the reference table (43_noise.md R171). -/
def refSin (k : Nat) : Int := refCos ((k + 150) % 200)

/-- Entry `k` of `SINCOS`: cosine then sine (43_noise.md R171). A table other than the reference one is a free value
(log 2). -/
def sincos (c : Config) (k : Fin 200) : Int × Int :=
  match c.sincos with
  | .reference => (refCos k, refSin k)
  | .other id => ((otherSincos id k).1.toInt, (otherSincos id k).2.toInt)

/-- `SINCOS[acc mod 200]`, the floor remainder (43_noise.md R170). -/
def sincosAt (c : Config) (acc : Int) : Int × Int := sincos c (Fin.ofNat 200 (fmod acc 200))

end Sys2Proof.Machine
end

