-- ==== Sys2Proof/Machine/Noise.lean ====
section
/-! DEFINITION. The noise generator unit: `LNOISE`, `CNOISE`, `PNOISE`, `DROPOUT` (43_noise.md R160 to R175). -/

namespace Sys2Proof.Machine

/-- The generator's state after draws (43_noise.md R160). -/
def State.setPrng (s : State) (st : Word) : State := { s with prngState := st }

/-- Add a random walk, restarted at 0, to a plane's row (43_noise.md R163 to R165). -/
def noiseRow (p : Plane) (amp r : Nat) (s : State) : Except Fault State :=
  match s.readRow p r with
  | .error e => .error e
  | .ok xs =>
    let w := walk s.cfg amp s.plW.toNat 0 s.prngState
    .ok ((s.writeRowSat p r (List.zipWith (fun x acc => x + acc) xs w.1)).setPrng w.2)

/-- `LNOISE`: luma noise (43_noise.md R164). -/
def execLnoise (s : State) : Host.Outcome State Fault Refusal :=
  runCommand .lnoise (planeCheck s) (s.lnoiseAmp == 0#16)
    (fun t => forEach (noiseRow .y t.lnoiseAmp.toNat) t.rows t) s

/-- `CNOISE` of one scanline: the `I` row, then the `Q` row (43_noise.md R165). -/
def cnoiseRow (amp r : Nat) (s : State) : Except Fault State :=
  match noiseRow .i amp r s with
  | .error e => .error e
  | .ok t => noiseRow .q amp r t

/-- `CNOISE`: chroma noise (43_noise.md R165). -/
def execCnoise (s : State) : Host.Outcome State Fault Refusal :=
  runCommand .cnoise (planeCheck s) (s.cnoiseAmp == 0#16)
    (fun t => forEach (cnoiseRow t.cnoiseAmp.toNat) t.rows t) s

/-- The rotated `I` of a pair, before saturation (43_noise.md R170). -/
def rotateI (cs : Int × Int) (i q : Int) : Int := rdiv (i * cs.1 - q * cs.2) 16384

/-- The rotated `Q` of a pair, before saturation (43_noise.md R170). -/
def rotateQ (cs : Int × Int) (i q : Int) : Int := rdiv (i * cs.2 + q * cs.1) 16384

/-- Rotate the pairs of one row by a table entry; both are read before either is written (43_noise.md R170). -/
def rotateRow (cs : Int × Int) (r : Nat) (s : State) : Except Fault State :=
  match s.readRow .i r with
  | .error e => .error e
  | .ok is =>
    match s.readRow .q r with
    | .error e => .error e
    | .ok qs =>
      .ok ((s.writeRowSat .i r (List.zipWith (rotateI cs) is qs)).writeRowSat .q r
        (List.zipWith (rotateQ cs) is qs))

/-- `PNOISE` of one scanline: one step of the walk, then the rotation. The accumulator is carried to the next
scanline of the command (43_noise.md R170). -/
def pnoiseRow (amp r : Nat) (st : State × Int) : Except Fault (State × Int) :=
  let a := walkStep st.1.cfg amp st.2 st.1.prngState
  match rotateRow (sincosAt st.1.cfg a.1) r (st.1.setPrng a.2) with
  | .error e => .error e
  | .ok t => .ok (t, a.1)

/-- The effect of `PNOISE`: the accumulator starts at 0 in every command and is not kept (43_noise.md R170). -/
def pnoiseEffect (s : State) : Except Fault State :=
  match forEach (pnoiseRow s.pnoiseAmp.toNat) s.rows (s, 0) with
  | .error e => .error e
  | .ok st => .ok st.1

/-- `PNOISE`: chroma phase noise (43_noise.md R170). -/
def execPnoise (s : State) : Host.Outcome State Fault Refusal :=
  runCommand .pnoise (planeCheck s) (s.pnoiseAmp == 0#16) pnoiseEffect s

/-- `DROPOUT` of one scanline: one draw; below the loss, both chroma rows are zeroed (43_noise.md R175). -/
def dropoutRow (loss r : Nat) (s : State) : Except Fault State :=
  let d := draw s.cfg 100000 s.prngState
  let t := s.setPrng d.2
  let zeros := List.replicate s.plW.toNat (0 : Int)
  .ok (if d.1 < loss then (t.writeRow .i r zeros).writeRow .q r zeros else t)

/-- `DROPOUT`: chroma dropout (43_noise.md R175). -/
def execDropout (s : State) : Host.Outcome State Fault Refusal :=
  runCommand .dropout (planeCheck s) (s.chromaLoss == 0#32)
    (fun t => forEach (dropoutRow t.chromaLoss.toNat) t.rows t) s

end Sys2Proof.Machine
end

