-- ==== Sys2Proof/Machine/Subcarrier.lean ====
section
/-! DEFINITION. The subcarrier codec: `C2L` and `L2C` (42_subcarrier.md R140 to R145). -/

namespace Sys2Proof.Machine

/-- The checks of the codec in order: a valid plane shape, then a known phase-shift mode (42_subcarrier.md R140). -/
def codecCheck (s : State) : Option FaultCode :=
  if s.planeShapeValid then if 3 < s.phaseMode.toNat then some .invalidArg else none else some .invalidArg

/-- The multiplier vector `U = [1, 0, -1, 0]` (42_subcarrier.md R142). -/
def carU (ph : Nat) : Int := [1, 0, -1, 0].getD ph 0

/-- The multiplier vector `V = [0, 1, 0, -1]` (42_subcarrier.md R142). -/
def carV (ph : Nat) : Int := [0, 1, 0, -1].getD ph 0

/-- The carrier sample: `+i, +q, -i, -q` at phases 0, 1, 2, 3 (42_subcarrier.md R142). -/
def car (i q : Int) (ph : Nat) : Int := i * carU ph + q * carV ph

/-- The new luma of a row from column `x` on, before saturation (42_subcarrier.md R143). -/
def c2lFrom (a : Int) (k : Nat) : Nat → List (Int × Int × Int) → List Int
  | _, [] => []
  | x, t :: ts => (t.1 + tdiv (car t.2.1 t.2.2 ((x + k) % 4) * a) 50) :: c2lFrom a k (x + 1) ts

/-- `C2L` of one row: luma plus carrier, chroma zeroed (42_subcarrier.md R143). -/
def c2lRow (r : Nat) (s : State) : Except Fault State :=
  match s.readRow .y r with
  | .error e => .error e
  | .ok ys =>
    match s.readRow .i r with
    | .error e => .error e
    | .ok is =>
      match s.readRow .q r with
      | .error e => .error e
      | .ok qs =>
        let zeros := List.replicate s.plW.toNat (0 : Int)
        .ok (((s.writeRowSat .y r (c2lFrom s.scAmpl.toNat (s.xi r) 0 (ys.zip (is.zip qs)))).writeRow .i r
          zeros).writeRow .q r zeros)

/-- `C2L`: chroma into luma (42_subcarrier.md R143). An amplitude of 0 is no special case. -/
def execC2l (s : State) : Host.Outcome State Fault Refusal :=
  runCommand .c2l (codecCheck s) false (fun t => forEach c2lRow t.rows t) s

/-- Entry `j` of a row, 0 outside it: `g(j)`, `E(j)`, `In'(j)`, `Qn'(j)` (42_subcarrier.md R144, R145;
00_scope.md R11). -/
def rowAt (xs : List Int) (j : Int) : Int := if j < 0 then 0 else xs.getD j.toNat 0

/-- The smoothed luma `L[x]`: the 4-sample moving sum divided by 4 (42_subcarrier.md R144). -/
def combLuma (yo : List Int) (x : Nat) : Int :=
  fdiv (rowAt yo ((x : Int) - 1) + rowAt yo x + rowAt yo ((x : Int) + 1) + rowAt yo ((x : Int) + 2)) 4

/-- The residual `c[x]` (42_subcarrier.md R144). -/
def combResidual (yo : List Int) (x : Nat) : Int := rowAt yo ((x : Int) + 2) - combLuma yo x

/-- The phase-corrected residual `d[x]` (42_subcarrier.md R144). -/
def combFlipped (yo : List Int) (k x : Nat) : Int :=
  if (x + k) % 4 < 2 then combResidual yo x else -combResidual yo x

/-- The rescaled residual `e[x]`, for an amplitude of at least 1 (42_subcarrier.md R144). -/
def combScaled (yo : List Int) (k : Nat) (a : Int) (x : Nat) : Int := tdiv (combFlipped yo k x * 50) a

/-- The smoothed luma row `L` (42_subcarrier.md R144). -/
def lumaRow (yo : List Int) : List Int := (List.range yo.length).map (combLuma yo)

/-- The row `e` (42_subcarrier.md R144). -/
def chromaRow (yo : List Int) (k : Nat) (a : Int) : List Int :=
  (List.range yo.length).map (combScaled yo k a)

/-- The chroma at an even column before saturation: `-E(x + shift)`, with `shift = k` for `I` and `k + 1` for `Q`
(42_subcarrier.md R145). -/
def evenChroma (e : List Int) (shift x : Nat) : Int := -rowAt e ((x : Int) + shift)

/-- `In'(j)` and `Qn'(j)` at an even column `j`: the saturated chroma inside the row, 0 beyond it
(42_subcarrier.md R145). -/
def evenChromaAt (e : List Int) (shift j : Nat) : Int :=
  if j < e.length then sat32 (evenChroma e shift j) else 0

/-- One decoded chroma row: even columns saturated, odd ones interpolated between them (42_subcarrier.md R145). -/
def decodedChroma (e : List Int) (shift : Nat) : List Int :=
  (List.range e.length).map (fun x =>
    if x % 2 = 0 then evenChromaAt e shift x
    else fdiv (evenChromaAt e shift (x - 1) + evenChromaAt e shift (x + 1)) 2)

/-- Whether an even column of a decoded chroma row clamps (42_subcarrier.md R145; 00_scope.md R8). -/
def decodedClamps (e : List Int) (shift : Nat) : Bool :=
  (List.range e.length).any (fun x => x % 2 == 0 && clamps (evenChroma e shift x))

/-- `L2C` of one row; the old chroma is not read (42_subcarrier.md R145). -/
def l2cRow (r : Nat) (s : State) : Except Fault State :=
  match s.readRow .y r with
  | .error e => .error e
  | .ok yo =>
    let k := s.xi r
    let e := chromaRow yo k s.scAmpl.toNat
    .ok ((((s.writeRow .y r (lumaRow yo)).writeRow .i r (decodedChroma e k)).writeRow .q r
      (decodedChroma e (k + 1))).noteSat (decodedClamps e k || decodedClamps e (k + 1)))

/-- `L2C`: chroma from luma; a no-op at amplitude 0 (42_subcarrier.md R145). -/
def execL2c (s : State) : Host.Outcome State Fault Refusal :=
  runCommand .l2c (codecCheck s) (s.scAmpl == 0#16) (fun t => forEach l2cRow t.rows t) s

end Sys2Proof.Machine
end

