-- ==== Sys2Proof/Machine/System.lean ====
section
/-! DEFINITION. The system command `NOP` (44_system.md R194). -/

namespace Sys2Proof.Machine

/-- `NOP`: no check, no effect; it counts (44_system.md R194; 30_encoding.md R85). -/
def execNop (s : State) : Host.Outcome State Fault Refusal :=
  runCommand .nop none false (fun t => .ok t) s

end Sys2Proof.Machine
end

