-- ==== Sys2Proof/Machine/Dispatch.lean ====
section
/-! DEFINITION. One arm per command (30_encoding.md R81). -/

namespace Sys2Proof.Machine

def exec (i : Instr) (s : State) : Host.Outcome State Fault Refusal :=
  match i with
  | .nop => Sys2Proof.Machine.execNop s
  | .toyiq => Sys2Proof.Machine.execToyiq s
  | .fromyiq => Sys2Proof.Machine.execFromyiq s
  | .lpf pm => Sys2Proof.Machine.execLpf pm s
  | .hpf pm => Sys2Proof.Machine.execHpf pm s
  | .lpf3 pm => Sys2Proof.Machine.execLpf3 pm s
  | .preemph => Sys2Proof.Machine.execPreemph s
  | .c2l => Sys2Proof.Machine.execC2l s
  | .l2c => Sys2Proof.Machine.execL2c s
  | .lnoise => Sys2Proof.Machine.execLnoise s
  | .cnoise => Sys2Proof.Machine.execCnoise s
  | .pnoise => Sys2Proof.Machine.execPnoise s
  | .dropout => Sys2Proof.Machine.execDropout s

end Sys2Proof.Machine
end

