-- ==== Sys2Proof/Machine/Registers.lean ====
section
/-! DEFINITION. The register file as the host sees it (10_state.md R21 to R47; 44_system.md R191, R192). -/

namespace Sys2Proof.Machine

/-- The constant `ID` reads, "NTQ1" (10_state.md R22). -/
def idValue : Word := 0x4E545131#32

/-- Every register, in the order of the offsets. -/
def allRegs : List Reg :=
  [.id, .cmd, .status, .err, .errcmd, .cmdcnt, .srcH, .srcW, .dstH, .dstW, .plH, .plW, .field, .fieldNo,
   .phaseMode, .phaseOffset, .scAmpl, .fltAlpha, .fltReset, .preAmt, .lnoiseAmp, .cnoiseAmp, .pnoiseAmp,
   .chromaLoss, .prngState]

/-- A register's byte offset (10_state.md R22 to R46). -/
def regOffset : Reg → Nat
  | .id => 0x00
  | .cmd => 0x04
  | .status => 0x08
  | .err => 0x0C
  | .errcmd => 0x10
  | .cmdcnt => 0x14
  | .srcH => 0x20
  | .srcW => 0x24
  | .dstH => 0x28
  | .dstW => 0x2C
  | .plH => 0x30
  | .plW => 0x34
  | .field => 0x38
  | .fieldNo => 0x3C
  | .phaseMode => 0x40
  | .phaseOffset => 0x44
  | .scAmpl => 0x48
  | .fltAlpha => 0x4C
  | .fltReset => 0x50
  | .preAmt => 0x54
  | .lnoiseAmp => 0x58
  | .cnoiseAmp => 0x5C
  | .pnoiseAmp => 0x60
  | .chromaLoss => 0x64
  | .prngState => 0x68

/-- The register at an offset; none at a reserved one (10_state.md R47). -/
def regAt (off : Nat) : Option Reg := allRegs.find? (fun r => regOffset r == off)

/-- The offsets a register access may have: multiples of 4 in 0x00..0xFC (10_state.md R21, R47). -/
def offsetOk (off : Nat) : Bool := decide (off % 4 = 0) && decide (off ≤ 0xFC)

/-- The number of bits a register implements (10_state.md R22 to R46). -/
def regWidth : Reg → Nat
  | .status => 3
  | .err => 8
  | .srcH => 16
  | .srcW => 16
  | .dstH => 16
  | .dstW => 16
  | .plH => 16
  | .plW => 16
  | .field => 1
  | .phaseMode => 3
  | .scAmpl => 16
  | .fltAlpha => 16
  | .preAmt => 16
  | .lnoiseAmp => 16
  | .cnoiseAmp => 16
  | .pnoiseAmp => 16
  | .id => 32
  | .cmd => 32
  | .errcmd => 32
  | .cmdcnt => 32
  | .fieldNo => 32
  | .phaseOffset => 32
  | .fltReset => 32
  | .chromaLoss => 32
  | .prngState => 32

/-- The parameter registers, which store what is written to them (access type RW; 10_state.md R28 to R46). -/
def isParameter : Reg → Bool
  | .id => false
  | .cmd => false
  | .status => false
  | .err => false
  | .errcmd => false
  | .cmdcnt => false
  | .srcH => true
  | .srcW => true
  | .dstH => true
  | .dstW => true
  | .plH => true
  | .plW => true
  | .field => true
  | .fieldNo => true
  | .phaseMode => true
  | .phaseOffset => true
  | .scAmpl => true
  | .fltAlpha => true
  | .fltReset => true
  | .preAmt => true
  | .lnoiseAmp => true
  | .cnoiseAmp => true
  | .pnoiseAmp => true
  | .chromaLoss => true
  | .prngState => true

/-- `HostReadReg` of a register: the stored bits zero-extended (44_system.md R192). -/
def State.readReg (s : State) : Reg → Word
  | .id => idValue
  | .cmd => 0#32
  | .status => s.statusWord
  | .err => s.errCode.setWidth 32
  | .errcmd => s.errCmd
  | .cmdcnt => s.cmdCnt
  | .srcH => s.srcH.setWidth 32
  | .srcW => s.srcW.setWidth 32
  | .dstH => s.dstH.setWidth 32
  | .dstW => s.dstW.setWidth 32
  | .plH => s.plH.setWidth 32
  | .plW => s.plW.setWidth 32
  | .field => s.field.setWidth 32
  | .fieldNo => s.fieldNo
  | .phaseMode => s.phaseMode.setWidth 32
  | .phaseOffset => s.phaseOffset
  | .scAmpl => s.scAmpl.setWidth 32
  | .fltAlpha => s.fltAlpha.setWidth 32
  | .fltReset => s.fltReset
  | .preAmt => s.preAmt.setWidth 32
  | .lnoiseAmp => s.lnoiseAmp.setWidth 32
  | .cnoiseAmp => s.cnoiseAmp.setWidth 32
  | .pnoiseAmp => s.pnoiseAmp.setWidth 32
  | .chromaLoss => s.chromaLoss
  | .prngState => s.prngState

/-- `HostWriteReg` of a register other than `CMD`: a parameter register of width `N` takes bits `N-1:0`; `STATUS`
clears `SAT` on a written 1 in bit 2; `ERR` acknowledges the fault whatever is written; the read-only registers
ignore the write (44_system.md R191). A write of `CMD` stores nothing (10_state.md R23). -/
def State.writeReg (s : State) (w : Word) : Reg → State
  | .id => s
  | .cmd => s
  | .status => if w.getLsbD 2 then { s with sat := false } else s
  | .err => s.ackFault
  | .errcmd => s
  | .cmdcnt => s
  | .srcH => { s with srcH := w.setWidth 16 }
  | .srcW => { s with srcW := w.setWidth 16 }
  | .dstH => { s with dstH := w.setWidth 16 }
  | .dstW => { s with dstW := w.setWidth 16 }
  | .plH => { s with plH := w.setWidth 16 }
  | .plW => { s with plW := w.setWidth 16 }
  | .field => { s with field := w.setWidth 1 }
  | .fieldNo => { s with fieldNo := w }
  | .phaseMode => { s with phaseMode := w.setWidth 3 }
  | .phaseOffset => { s with phaseOffset := w }
  | .scAmpl => { s with scAmpl := w.setWidth 16 }
  | .fltAlpha => { s with fltAlpha := w.setWidth 16 }
  | .fltReset => { s with fltReset := w }
  | .preAmt => { s with preAmt := w.setWidth 16 }
  | .lnoiseAmp => { s with lnoiseAmp := w.setWidth 16 }
  | .cnoiseAmp => { s with cnoiseAmp := w.setWidth 16 }
  | .pnoiseAmp => { s with pnoiseAmp := w.setWidth 16 }
  | .chromaLoss => { s with chromaLoss := w }
  | .prngState => { s with prngState := w }

end Sys2Proof.Machine
end

