-- ==== Sys2Proof/Machine/HostAccess.lean ====
section
/-! DEFINITION. What each transaction of the host does (20_memory.md R65; 44_system.md R190 to R193), and reset
(70_reset_and_hazards.md R230). -/

namespace Sys2Proof.Machine

/-- A write of the word `w` to `CMD`: the whole command, as one step (44_system.md R190). -/
def issue (w : Word) (s : State) : Host.Outcome State Fault Refusal :=
  match decode w with
  | .ok i => exec i s
  | .error _ => .next (issueIllegal w s)

/-- `HostWriteReg(off, w)` at a legal offset (44_system.md R191). -/
def hostWriteReg (off : Nat) (w : Word) (s : State) : Host.Outcome State Fault Refusal :=
  match regAt off with
  | some .cmd => issue w s
  | some r => .next (s.writeReg w r)
  | none => .next s

/-- `HostReadReg(off)` at a legal offset; a reserved one reads 0 (44_system.md R192; 10_state.md R47). -/
def hostReadReg (off : Nat) (s : State) : Word :=
  match regAt off with
  | some r => s.readReg r
  | none => 0#32

/-- The host takes the value its read returned (log 3). -/
def State.respond (s : State) (v : HostValue) : State := { s with response := some v }

/-- Reset: every register at the value of 10_state.md R54, every memory location unwritten; the parameters of the
implementation are fixed, and what the host will do next and has read is the host's (70_reset_and_hazards.md R230;
log 4). -/
def State.afterReset (s : State) : State :=
  { State.reset with cfg := s.cfg, script := s.script, response := s.response }

/-- One transaction of the host, or reset. An access that 20_memory.md R65 does not list is refused and changes
nothing (93_implementation_defined.md U3); a read of a location never written is the model's fault (U1). -/
def perform (op : HostOp) (s : State) : Host.Outcome State Fault Refusal :=
  match op with
  | .writeReg off w => if offsetOk off then hostWriteReg off w s else .refused (.badOffset off)
  | .readReg off =>
    if offsetOk off then .next (s.respond (.word (hostReadReg off s))) else .refused (.badOffset off)
  | .writeByte f k v =>
    if k < frameSize s.cfg then .next (s.setFrame f (memSet (s.frame f) k v)) else .refused (.noSuchByte f k)
  | .readByte f k =>
    if k < frameSize s.cfg then
      match memGet (s.frame f) k with
      | some v => .next (s.respond (.byte v))
      | none => .fault (.unwrittenByte f k)
    else .refused (.noSuchByte f k)
  | .writeSample p k v =>
    if k < planeSize s.cfg then .next (s.setPlane p (memSet (s.plane p) k v)) else .refused (.noSuchSample p k)
  | .readSample p k =>
    if k < planeSize s.cfg then
      match memGet (s.plane p) k with
      | some v => .next (s.respond (.sample v))
      | none => .fault (.unwrittenSample p k)
    else .refused (.noSuchSample p k)
  | .reset => .next s.afterReset

/-- The host makes its next transaction (20_memory.md R68); with none left the core is idle, which keeps all state
(60_exceptions.md R216). -/
def stepScript (s : State) : Host.Outcome State Fault Refusal :=
  match s.script with
  | [] => .next s
  | op :: rest => perform op { s with script := rest }

end Sys2Proof.Machine
end

