-- ==== Sys2Proof/Machine/Step.lean ====
section
/-! DEFINITION. One step of the machine: one transaction of the host (00_scope.md R13). -/

namespace Sys2Proof.Machine

/-- One step per host transaction; the step of a `CMD` write contains the whole command (00_scope.md R13). -/
def step (s : State) : Host.Outcome State Fault Refusal := stepScript s

/-- The state in which the host's next transaction writes the word whose low `nbits` bits are `w` to `CMD`. -/
def State.withFetchWord (s : State) (nbits w : Nat) : State :=
  { s with script := .writeReg 0x04 (commandWord nbits w) :: s.script }

end Sys2Proof.Machine
end

