-- ==== Sys2Proof/Machine/Alpha.lean ====
section
/-! DEFINITION. The conversion of a cutoff frequency to a filter coefficient, which the host does and not the core
(41_filters.md R122). It is stated as what the OPEN function `alphaOf` is bound by, not as a function (log 7). -/

namespace Sys2Proof.Machine

/-- `NTSC_RATE = 157500000/11 Hz`, the filter sample rate (00_scope.md R5; 41_filters.md R120). -/
def ntscRate : Rat := 157500000 / 11

/-- `A = alphaOf(fc, fs)`: an integer nearest to `65536 * alpha`, limited to 0..65535, where
`alpha = 2 pi fc / (fs + 2 pi fc)` (41_filters.md R122). -/
def IsAlphaOf (fc fs : ℝ) (a : ℤ) : Prop :=
  ∃ n : ℤ, |(n : ℝ) - 65536 * (2 * Real.pi * fc / (fs + 2 * Real.pi * fc))| ≤ 1 / 2 ∧ a = max 0 (min n 65535)

/-- The recurrence over the rationals that the filter approximates: `y[n] = alpha*x[n] + (1-alpha)*y[n-1]`
(41_filters.md R121, R128). -/
def exactLp (alpha : Rat) : Rat → List Int → List Rat
  | _, [] => []
  | y, x :: xs => (alpha * x + (1 - alpha) * y) :: exactLp alpha (alpha * x + (1 - alpha) * y) xs

end Sys2Proof.Machine
end

