-- ==== Sys2Proof/Machine/Script.lean ====
section
/-! DEFINITION. Host scripts: the lines and pseudo-instructions of 30_encoding.md R87 and R88, as the transactions
they stand for. -/

namespace Sys2Proof.Machine

/-- A line of a host script (30_encoding.md R87). -/
inductive ScriptLine where
  /-- `wr NAME, value`. -/
  | wr (r : Reg) (value : Int)
  /-- `rd NAME`. -/
  | rd (r : Reg)
  /-- `MNEMONIC` or `MNEMONIC.planes`. -/
  | command (i : Instr)
  /-- `src[r][c] = (b, g, r)` or `dst[r][c] = (b, g, r)`. -/
  | pixel (f : Frame) (row col : Nat) (blue green red : Byte)
  /-- `Y[r][c] = v`, also `I`, `Q`. -/
  | sample (p : Plane) (row col : Nat) (value : Int)
  /-- `; text`. -/
  | comment (text : String)
  deriving DecidableEq, Repr

/-- The index of a pixel's first byte, under the current width of its frame (20_memory.md R62). -/
def State.pixelIndex (s : State) (f : Frame) (row col : Nat) : Nat :=
  match f with
  | .src => s.srcIndex row col 0
  | .dst => s.dstIndex row col 0

/-- Whether a script value is a 32-bit word, written unsigned or as a negative decimal. That nothing outside
`-2^31 .. 2^32-1` is one is the model's choice (DESIGN CHOICE, log 13). -/
def wordValueOk (v : Int) : Bool := decide (-2 ^ 31 ≤ v) && decide (v < 2 ^ 32)

/-- Whether a script value is a plane sample (20_memory.md R65). -/
def sampleValueOk (v : Int) : Bool := decide (-2 ^ 31 ≤ v) && decide (v < 2 ^ 31)

/-- The transactions a line stands for in a state: the indices of pixels and samples are under the current widths
(30_encoding.md R87). A negative register value is the 32-bit two's complement word, whose low bits are the two's
complement in the register's width. A value that fits no transaction of 20_memory.md R65 (a register word beyond 32
bits, a sample outside `-2^31 .. 2^31-1`) has no meaning in R65, R87 or 93_implementation_defined.md U3; the model
refuses the line by name, before any transaction, and reduces nothing (DESIGN CHOICE, log 13). -/
def lineOps (s : State) : ScriptLine → Except Refusal (List HostOp)
  | .wr r v =>
    if wordValueOk v then .ok [.writeReg (regOffset r) (BitVec.ofInt 32 v)] else .error (.noSuchValue v)
  | .rd r => .ok [.readReg (regOffset r)]
  | .command i => .ok [.writeReg (regOffset .cmd) (encode i)]
  | .pixel f row col b g rd =>
    .ok [.writeByte f (s.pixelIndex f row col) b, .writeByte f (s.pixelIndex f row col + 1) g,
      .writeByte f (s.pixelIndex f row col + 2) rd]
  | .sample p row col v =>
    if sampleValueOk v then .ok [.writeSample p (s.planeIndex row col) (BitVec.ofInt 32 v)]
    else .error (.noSuchValue v)
  | .comment _ => .ok []

/-- Transactions in order (20_memory.md R68). -/
def performAll : List HostOp → State → Host.Outcome State Fault Refusal
  | [], s => .next s
  | op :: ops, s =>
    match perform op s with
    | .next t => performAll ops t
    | .fault e => .fault e
    | .refused e => .refused e

/-- A script: its lines in order, each under the state the lines before it leave (30_encoding.md R87). A line that
stands for no transaction is refused (log 13). -/
def runScript : List ScriptLine → State → Host.Outcome State Fault Refusal
  | [], s => .next s
  | l :: ls, s =>
    match lineOps s l with
    | .error e => .refused e
    | .ok ops =>
      match performAll ops s with
      | .next t => runScript ls t
      | .fault e => .fault e
      | .refused e => .refused e

/-- `seed v` (30_encoding.md R88). -/
def pseudoSeed (v : Int) : List ScriptLine := [.wr .prngState v]

/-- `shape h, w` (30_encoding.md R88). -/
def pseudoShape (h w : Int) : List ScriptLine := [.wr .srcH h, .wr .srcW w, .wr .dstH h, .wr .dstW w]

/-- `plshape h, w` (30_encoding.md R88). -/
def pseudoPlshape (h w : Int) : List ScriptLine := [.wr .plH h, .wr .plW w]

/-- `clrerr` (30_encoding.md R88). -/
def pseudoClrerr : List ScriptLine := [.wr .err 0]

/-- `clrsat` (30_encoding.md R88). -/
def pseudoClrsat : List ScriptLine := [.wr .status 4]

/-- `cutoff A` (30_encoding.md R88). -/
def pseudoCutoff (a : Int) : List ScriptLine := [.wr .fltAlpha a]

/-- `CHROMALP3 ai, aq`: `LPF3.i` and `LPF3.q` with a coefficient each (30_encoding.md R88). -/
def pseudoChromaLp3 (ai aq : Int) : List ScriptLine :=
  [.wr .fltAlpha ai, .command (.lpf3 2#3), .wr .fltAlpha aq, .command (.lpf3 4#3)]

end Sys2Proof.Machine
end

