-- ==== Sys2Proof/Safety.lean ====
section
/-! DEFINITION. What counts as a sound state, and the terms the statements use: when a command's operands are
readable, what a plane or a frame holds after it, and the accumulators of the noise commands as functions of the
number of draws. -/

namespace Sys2Proof.Machine

/-! ### Readable operands (10_state.md R55) -/

/-- Every sample of a row has been written. -/
def State.rowReadable (s : State) (p : Plane) (r : Nat) : Bool :=
  (List.range s.plW.toNat).all (fun x => (s.sampleAt p r x).isSome)

/-- Every sample of the field rows of a plane has been written. -/
def State.fieldReadable (s : State) (p : Plane) : Bool := s.rows.all (s.rowReadable p)

/-- Every byte of the frame in `SRC` has been written. -/
def State.srcReadable (s : State) : Bool :=
  (List.range s.srcH.toNat).all (fun r => (List.range s.srcW.toNat).all (fun c =>
    (List.range 3).all (fun ch => (memGet s.src (s.srcIndex r c ch)).isSome)))

/-! ### Values -/

/-- The sample of a plane at row `r`, column `c`; 0 where none has been written, which the statements exclude. -/
def State.val (s : State) (p : Plane) (r c : Nat) : Int := (s.sampleAt p r c).getD 0

/-- A plane's row as a list. -/
def State.rowOf (s : State) (p : Plane) (r : Nat) : List Int := (List.range s.plW.toNat).map (s.val p r)

/-- A byte of `SRC` as an integer; 0 where none has been written, which the statements exclude. -/
def State.srcVal (s : State) (r c ch : Nat) : Int := ((memGet s.src (s.srcIndex r c ch)).map BitVec.toNat).getD 0

/-! ### Memory after a command -/

/-- In `t` the listed rows of plane `p` hold `f row column`, and every sample outside them reads as in `s`. -/
def RowsBecome (rows : List Nat) (s t : State) (p : Plane) (f : Nat → Nat → Int) : Prop :=
  (∀ r ∈ rows, ∀ c < t.plW.toNat, t.sampleAt p r c = some (f r c)) ∧
  ∀ k, (∀ r ∈ rows, ∀ c < t.plW.toNat, k ≠ t.planeIndex r c) → memGet (t.plane p) k = memGet (s.plane p) k

/-- In `t` the listed rows of the frame in `DST` hold the pixels `f row column` (blue, green, red), and every byte
outside them reads as in `s`. -/
def PixelsBecome (rows : List Nat) (s t : State) (f : Nat → Nat → Int × Int × Int) : Prop :=
  (∀ r ∈ rows, ∀ c < t.dstW.toNat,
    (memGet t.dst (t.dstIndex r c 0)).map (fun b => (b.toNat : Int)) = some (f r c).1 ∧
    (memGet t.dst (t.dstIndex r c 1)).map (fun b => (b.toNat : Int)) = some (f r c).2.1 ∧
    (memGet t.dst (t.dstIndex r c 2)).map (fun b => (b.toNat : Int)) = some (f r c).2.2) ∧
  ∀ k, (∀ r ∈ rows, ∀ c < t.dstW.toNat, ∀ ch < 3, k ≠ t.dstIndex r c ch) → memGet t.dst k = memGet s.dst k

/-! ### Clamping on the field rows (00_scope.md R8) -/

/-- Some value of the field rows leaves the range of a sample. -/
def FieldClamps (s : State) (f : Nat → Nat → Int) : Prop :=
  ∃ r ∈ s.rows, ∃ c < s.plW.toNat, clamps (f r c) = true

/-! ### The filter, by the number of samples (41_filters.md R121) -/

/-- The filter states after each sample of a row. -/
def lpStates (a : Int) : Int → List Int → List Int
  | _, [] => []
  | st, x :: xs => lpStep a x st :: lpStates a (lpStep a x st) xs

/-! ### The decoder, sample by sample (42_subcarrier.md R144, R145) -/

/-- `g(j)`: the old luma at column `j`, 0 outside the row. -/
def State.lumaAt (s : State) (r : Nat) (j : Int) : Int :=
  if 0 ≤ j ∧ j < s.plW.toNat then s.val .y r j.toNat else 0

/-- `L[x]`. -/
def State.smoothed (s : State) (r : Nat) (x : Int) : Int :=
  fdiv (s.lumaAt r (x - 1) + s.lumaAt r x + s.lumaAt r (x + 1) + s.lumaAt r (x + 2)) 4

/-- `d[x]`. -/
def State.ripple (s : State) (r : Nat) (x : Int) : Int :=
  if (x + s.xi r) % 4 = 0 ∨ (x + s.xi r) % 4 = 1 then s.lumaAt r (x + 2) - s.smoothed r x
  else -(s.lumaAt r (x + 2) - s.smoothed r x)

/-- `E(j)`, for an amplitude of at least 1. -/
def State.rescaled (s : State) (r : Nat) (j : Int) : Int :=
  if 0 ≤ j ∧ j < s.plW.toNat then tdiv (s.ripple r j * 50) s.scAmpl.toNat else 0

/-- The chroma at an even column before saturation: `-E(x + shift)`. -/
def State.decodedEven (s : State) (r shift x : Nat) : Int := -s.rescaled r ((x : Int) + shift)

/-- `In'(x)` and `Qn'(x)` at an even column: saturated inside the row, 0 beyond it. -/
def State.decodedEvenAt (s : State) (r shift x : Nat) : Int :=
  if x < s.plW.toNat then sat32 (s.decodedEven r shift x) else 0

/-- `In[x]` (`shift = xi`) and `Qn[x]` (`shift = xi + 1`). -/
def State.decoded (s : State) (r shift x : Nat) : Int :=
  if x % 2 = 0 then s.decodedEvenAt r shift x
  else fdiv (s.decodedEvenAt r shift (x - 1) + s.decodedEvenAt r shift (x + 1)) 2

/-! ### The noise unit, by the number of draws (43_noise.md R160 to R163) -/

/-- The generator's state after `n` draws from `st`. -/
def prngAfter (c : Config) (st : Word) (n : Nat) : Word := (prngNext c)^[n] st

/-- The value of the `n`-th draw from `st`, counted from 1, reduced to 0..m-1. -/
def nthDraw (c : Config) (st : Word) (m n : Nat) : Nat := prngOut c (prngAfter c st n) % m

/-- The accumulator after `n` steps of the halving walk that starts at 0 with generator state `st`. -/
def accAfter (c : Config) (amp : Nat) (st : Word) : Nat → Int
  | 0 => 0
  | n + 1 => tdiv (accAfter c amp st n + ((nthDraw c st (2 * amp + 1) (n + 1) : Nat) - (amp : Int))) 2

/-! ### Sound states -/

/-- What the fault registers may hold (10_state.md R25, R26; 60_exceptions.md R200): no code and no word; or one of
the three codes with a word that can raise it. -/
def faultRegsOk (code : BitVec 8) (w : Word) : Bool :=
  (code == 0#8 && w == 0#32) ||
  (code == 1#8 && !legalWord w) ||
  (code == 2#8 && (w == 1#32 || w == 2#32)) ||
  (code == 3#8 && legalWord w && w != 0#32)

/-- A sound state: the fault registers hold what a fault can leave in them, every memory is in its canonical form,
and no memory lists an index it does not have (10_state.md R25, R26; 20_memory.md R60, R72). -/
structure Inv (s : State) : Prop where
  faultRegs : faultRegsOk s.errCode s.errCmd = true
  srcWf : memWf s.src = true
  dstWf : memWf s.dst = true
  planeWf : ∀ p, memWf (s.plane p) = true
  srcBelow : memBelow (frameSize s.cfg) s.src = true
  dstBelow : memBelow (frameSize s.cfg) s.dst = true
  planeBelow : ∀ p, memBelow (planeSize s.cfg) (s.plane p) = true

/-- Change the state a next outcome answers; a stop stays as it is. -/
def mapNext (f : State → State) : Host.Outcome State Fault Refusal → Host.Outcome State Fault Refusal
  | .next t => .next (f t)
  | .fault e => .fault e
  | .refused e => .refused e

/-- One command after another; a stop ends the sequence. -/
def execAll : List Instr → State → Host.Outcome State Fault Refusal
  | [], s => .next s
  | i :: is, s =>
    match exec i s with
    | .next t => execAll is t
    | .fault e => .fault e
    | .refused e => .refused e

end Sys2Proof.Machine
end

