-- ==== Sys2Proof/Certificates/Slice0/Obligations.lean ====
section
/-! DEFINITION. The statements for the provers. Each says which rule of spec/ it formalises. -/

open Sys2Proof Sys2Proof.Machine

/-! ### Encoding -/

/-- 30_encoding.md R81, R84, R86: the decoder and the encoder agree in both directions, so no word but `encode i`
decodes to `i`. -/
def Obligations.DecodeAndEncodeAgree : Prop :=
  (∀ i : Instr, i.wf = true → decode (encode i) = .ok i) ∧
  ∀ (w : Word) (i : Instr), decode w = .ok i → i.wf = true ∧ encode i = w

/-- 30_encoding.md R84, whole: the decoder refuses exactly the words one of the three clauses makes illegal, the
words it takes are the 34 listed, and an illegal word raises `E_ILLEGAL_CMD` and does nothing else. -/
def Obligations.IllegalWordsAreExactlyThoseOfTheRule : Prop :=
  ∀ w : Word,
    ((∃ e, decode w = .error e) ↔
      w.toNat / 2048 ≠ 0 ∨
      w.toNat % 256 ∉ [0x00, 0x01, 0x02, 0x10, 0x11, 0x12, 0x13, 0x20, 0x21, 0x30, 0x31, 0x32, 0x33] ∨
      (w.toNat % 256 ∉ [0x10, 0x11, 0x12] ∧ w.toNat / 256 % 8 ≠ 0)) ∧
    ((∃ i, decode w = .ok i) ↔
      w.toNat ∈ [0x00, 0x01, 0x02, 0x13, 0x20, 0x21, 0x30, 0x31, 0x32, 0x33] ∨
      ∃ m < 8, w.toNat = 0x10 + 0x100 * m ∨ w.toNat = 0x11 + 0x100 * m ∨ w.toNat = 0x12 + 0x100 * m) ∧
    ∀ (s : State) (e : Reject), decode w = .error e → s.errCode = 0#8 →
      perform (.writeReg 0x04 w) s = .next { s with errCode := 1#8, errCmd := w }

/-- 30_encoding.md R86: no word selects two rows of the opcode table. -/
def Obligations.OpcodeRowsAreDisjoint : Prop :=
  opcodeRows.Pairwise (fun r r' => ∀ w : Word, ¬(w &&& r.mask = r.value ∧ w &&& r'.mask = r'.value))

/-- 30_encoding.md R81, by the words of 95_test_vectors.md V-ENC-1 and V-ENC-2. -/
def Obligations.SampleWordsDecode : Prop :=
  decode 0x00000000#32 = .ok .nop ∧ decode 0x00000001#32 = .ok .toyiq ∧ decode 0x00000610#32 = .ok (.lpf 6#3) ∧
  decode 0x00000111#32 = .ok (.hpf 1#3) ∧ decode 0x00000712#32 = .ok (.lpf3 7#3) ∧
  decode 0x00000021#32 = .ok .l2c ∧ decode 0x00000033#32 = .ok .dropout ∧
  decode 0x00000100#32 = .error .strayMask ∧ decode 0x00000014#32 = .error .unknownOp ∧
  decode 0x00000810#32 = .error .reservedBits

/-! ### The step and the order of a command -/

/-- 44_system.md R190, 00_scope.md R13: when the host's next transaction writes to `CMD` a word that decodes to `i`,
the step is `exec i` of the state without that transaction, and nothing is added to it; so is the step of a state that
`withFetchWord` made. -/
def Obligations.StepRunsTheDecodedCommand : Prop :=
  (∀ (s : State) (w : Word) (i : Instr) (rest : List HostOp),
    s.script = .writeReg 0x04 w :: rest → decode w = .ok i → step s = exec i { s with script := rest }) ∧
  ∀ (s : State) (w : Word) (i : Instr), decode w = .ok i → step (s.withFetchWord 32 w.toNat) = exec i s

/-- The step of any other transaction is that transaction on the state without it; with none left the step keeps all
state. That the transactions stand in a list of State is the model's choice (log 3). -/
def Obligations.StepPerformsTheNextTransaction : Prop :=
  (∀ (s : State) (op : HostOp) (rest : List HostOp),
    s.script = op :: rest → step s = perform op { s with script := rest }) ∧
  ∀ s : State, s.script = [] → step s = .next s

/-- 60_exceptions.md R206, whole: while a fault is latched a write of any word to `CMD` changes nothing, legal or not,
and a parameter or memory transaction does what it does when no fault is latched, and leaves the code latched. -/
def Obligations.LatchedFaultDiscardsCommands : Prop :=
  ∀ s : State, s.errCode ≠ 0#8 →
    (∀ w : Word, perform (.writeReg 0x04 w) s = .next s) ∧
    ∀ op : HostOp,
      (∃ r, isParameter r = true ∧ (op = .readReg (regOffset r) ∨ ∃ w, op = .writeReg (regOffset r) w)) ∨
      (∃ f k, op = .readByte f k ∨ ∃ v, op = .writeByte f k v) ∨
      (∃ p k, op = .readSample p k ∨ ∃ v, op = .writeSample p k v) →
      perform op s = mapNext (fun t => { t with errCode := s.errCode }) (perform op { s with errCode := 0#8 })

/-- 60_exceptions.md R205, whole: a write of any value to `ERR` clears `ERR.CODE` and `ERRCMD` and restores nothing,
and `CMD` writes are executed again after it. -/
def Obligations.AcknowledgingClearsTheFault : Prop :=
  ∀ (s : State) (v : Word),
    perform (.writeReg 0x0C v) s = .next { s with errCode := 0#8, errCmd := 0#32 } ∧
    (∀ i : Instr, perform (.writeReg 0x04 (encode i)) { s with errCode := 0#8, errCmd := 0#32 } =
      exec i { s with errCode := 0#8, errCmd := 0#32 }) ∧
    perform (.writeReg 0x04 0#32) { s with errCode := 0#8, errCmd := 0#32 } =
      .next { s with errCode := 0#8, errCmd := 0#32, cmdCnt := s.cmdCnt + 1#32 }

/-- 60_exceptions.md R204, whole: a command that faults writes `ERR.CODE` and `ERRCMD`, the word being executed, and
nothing else; `STATUS.ERRF` reads 1 from then on. -/
def Obligations.FaultEntryChangesOnlyTheFaultRegisters : Prop :=
  (∀ (i : Instr) (s t : State), exec i s = .next t → t.errCode ≠ s.errCode →
    s.errCode = 0#8 ∧ t = { s with errCode := t.errCode, errCmd := encode i } ∧
    (t.readReg .status).getLsbD 1 = true) ∧
  ∀ (w : Word) (e : Reject) (s : State), decode w = .error e → s.errCode = 0#8 →
    ∃ t, perform (.writeReg 0x04 w) s = .next t ∧ t = { s with errCode := 1#8, errCmd := w } ∧
      (t.readReg .status).getLsbD 1 = true

/-- 60_exceptions.md R200 and R207, whole: each fault is raised exactly by its cause, and the first cause in the order
illegal word, shape mismatch, invalid argument is the one reported. -/
def Obligations.FaultsAreRaisedExactlyByTheirCauses : Prop :=
  ∀ s : State, s.errCode = 0#8 →
    (∀ (w : Word) (e : Reject), decode w = .error e →
      perform (.writeReg 0x04 w) s = .next { s with errCode := 1#8, errCmd := w }) ∧
    ∀ (i : Instr) (mismatch invalid : Prop),
      (mismatch ↔
        (i = .toyiq ∧ ¬(s.srcH = s.dstH ∧ s.srcW = s.dstW)) ∨
        (i = .fromyiq ∧ ¬(s.dstH = s.plH ∧ s.dstW = s.plW))) →
      (invalid ↔
        (i = .toyiq ∧ ¬(1 ≤ s.srcH.toNat ∧ s.srcH.toNat ≤ s.cfg.hmax ∧ 1 ≤ s.srcW.toNat ∧ s.srcW.toNat ≤ s.cfg.wmax)) ∨
        (i ≠ .toyiq ∧ i ≠ .nop ∧
          ¬(1 ≤ s.plH.toNat ∧ s.plH.toNat ≤ s.cfg.hmax ∧ 1 ≤ s.plW.toNat ∧ s.plW.toNat ≤ s.cfg.wmax)) ∨
        ((i = .c2l ∨ i = .l2c) ∧ 3 < s.phaseMode.toNat)) →
      (mismatch → exec i s = .next { s with errCode := 2#8, errCmd := encode i }) ∧
      (¬mismatch → invalid → exec i s = .next { s with errCode := 3#8, errCmd := encode i }) ∧
      (¬mismatch → ¬invalid → ∀ t, exec i s = .next t → t.errCode = 0#8 ∧ t.errCmd = s.errCmd)

/-! ### Invariants and rules of the whole machine -/

/-- The state after reset is sound (`Inv`; 10_state.md R25, R26, R54, R55). -/
def Obligations.ResetStateIsSound : Prop := Inv State.reset

/-- 10_state.md R25, R26, 60_exceptions.md R200, 20_memory.md R72: every step from a sound state leads to a sound
state. The fault registers hold a code with a word that can raise it, the memories keep their canonical form, and no
memory lists an index it does not have. -/
def Obligations.EveryStepKeepsTheStateSound : Prop :=
  ∀ s t : State, Inv s → step s = .next t → Inv t

/-- 00_scope.md R14: the parameters of the implementation are fixed for a run. That they stand in State is the model's
choice (log 1). -/
def Obligations.ConfigurationIsFixed : Prop :=
  ∀ s t : State, step s = .next t → t.cfg = s.cfg

/-- Which registers and whole memories each command may change (10_state.md R21, R50; 30_encoding.md R85;
40_colorspace.md R102; 41_filters.md R126; 43_noise.md R164, R165, R170, R175). Which rows of a memory change, and
which planes a mask selects, the statements of the single commands say. -/
def Obligations.CommandsChangeOnlyTheseRegistersAndMemories : Prop :=
  ∀ (i : Instr) (s t : State), exec i s = .next t →
    t = { s with
      sat := t.sat, errCode := t.errCode, errCmd := t.errCmd, cmdCnt := t.cmdCnt, plH := t.plH, plW := t.plW,
      prngState := t.prngState, dst := t.dst, planeY := t.planeY, planeI := t.planeI, planeQ := t.planeQ } ∧
    (i ≠ .toyiq → t.plH = s.plH ∧ t.plW = s.plW) ∧
    (i ≠ .lnoise → i ≠ .cnoise → i ≠ .pnoise → i ≠ .dropout → t.prngState = s.prngState) ∧
    (i ≠ .fromyiq → t.dst = s.dst) ∧
    (i = .nop ∨ i = .fromyiq → t.planeY = s.planeY ∧ t.planeI = s.planeI ∧ t.planeQ = s.planeQ) ∧
    (i = .preemph ∨ i = .lnoise → t.planeI = s.planeI ∧ t.planeQ = s.planeQ) ∧
    (i = .cnoise ∨ i = .pnoise ∨ i = .dropout → t.planeY = s.planeY)

/-- 10_state.md R24, R49: no command clears `STATUS.SAT`, and the commands whose row of the table of R49 says "no"
never set it. -/
def Obligations.SaturationFlagIsSticky : Prop :=
  ∀ (i : Instr) (s t : State), exec i s = .next t →
    (s.sat = true → t.sat = true) ∧
    (i = .nop ∨ i = .toyiq ∨ i = .fromyiq ∨ (∃ pm, i = .lpf pm) ∨ (∃ pm, i = .lpf3 pm) ∨ i = .dropout →
      t.sat = s.sat)

/-- 10_state.md R27, whole: `CMDCNT` counts the commands completed without a fault, modulo `2^32`; a faulting or
ignored command and any other register write leave it. -/
def Obligations.CommandCounterCountsCompletions : Prop :=
  State.reset.cmdCnt = 0#32 ∧
  (∀ (i : Instr) (s t : State), exec i s = .next t →
    (s.errCode = 0#8 → t.errCode = 0#8 → t.cmdCnt.toNat = (s.cmdCnt.toNat + 1) % 2 ^ 32) ∧
    (s.errCode ≠ 0#8 ∨ t.errCode ≠ 0#8 → t.cmdCnt = s.cmdCnt)) ∧
  (∀ (w : Word) (e : Reject) (s t : State), decode w = .error e → perform (.writeReg 0x04 w) s = .next t →
    t.cmdCnt = s.cmdCnt) ∧
  ∀ (off : Nat) (w : Word) (s t : State), off ≠ 0x04 → perform (.writeReg off w) s = .next t → t.cmdCnt = s.cmdCnt

/-- 10_state.md R55, 93_implementation_defined.md U1: a command is never refused, and it stops only at a sample or a
byte of `SRC` that nothing had written before it. -/
def Obligations.CommandsStopOnlyAtUnwrittenLocations : Prop :=
  ∀ (i : Instr) (s : State),
    (∀ e, exec i s ≠ .refused e) ∧
    ∀ e, exec i s = .fault e →
      (∃ p k, e = .unwrittenSample p k ∧ memGet (s.plane p) k = none) ∨
      (∃ k, e = .unwrittenByte .src k ∧ memGet s.src k = none)

/-- 10_state.md R50: no command other than `TOYIQ` depends on `SRC`. -/
def Obligations.OnlyToyiqDependsOnSrc : Prop :=
  ∀ (i : Instr) (s : State) (m : List Host.Cell), i ≠ .toyiq →
    exec i { s with src := m } = mapNext (fun t => { t with src := m }) (exec i s)

/-- 30_encoding.md R83: no command but `C2L` and `L2C` reads `FIELDNO`, `PHASE_MODE`, `PHASE_OFFSET` or `SC_AMPL`. -/
def Obligations.OnlyTheCodecReadsTheCodecParameters : Prop :=
  ∀ (i : Instr) (s : State) (fn off : BitVec 32) (mode : BitVec 3) (a : BitVec 16), i ≠ .c2l → i ≠ .l2c →
    exec i { s with fieldNo := fn, phaseMode := mode, phaseOffset := off, scAmpl := a } =
      mapNext (fun t => { t with fieldNo := fn, phaseMode := mode, phaseOffset := off, scAmpl := a }) (exec i s)

/-- 10_state.md R35, R37: only `FIELDNO mod 4` and `PHASE_OFFSET mod 4` influence a result. -/
def Obligations.OnlyTheFieldNumberModFourMatters : Prop :=
  ∀ (i : Instr) (s : State) (fn off : BitVec 32),
    fn.toNat % 4 = s.fieldNo.toNat % 4 → off.toNat % 4 = s.phaseOffset.toNat % 4 →
    exec i { s with fieldNo := fn, phaseOffset := off } =
      mapNext (fun t => { t with fieldNo := fn, phaseOffset := off }) (exec i s)

/-- 10_state.md R54, 70_reset_and_hazards.md R230: after reset every register reads 0 but `ID`, and no memory location
has been written; so too when the reset event arrives in any state. -/
def Obligations.ResetClearsRegistersAndMemories : Prop :=
  (∀ r : Reg, State.reset.readReg r = if r = .id then 0x4E545131#32 else 0#32) ∧
  (∀ k, memGet State.reset.src k = none ∧ memGet State.reset.dst k = none) ∧
  (∀ p k, memGet (State.reset.plane p) k = none) ∧
  ∀ s : State, ∃ t, perform .reset s = .next t ∧ ∀ r : Reg, t.readReg r = State.reset.readReg r ∧
    (∀ k, memGet t.src k = none ∧ memGet t.dst k = none) ∧ ∀ p k, memGet (t.plane p) k = none

/-! ### The host's transactions -/

/-- 44_system.md R191, whole: the write of a register. -/
def Obligations.HostRegisterWrite : Prop :=
  ∀ (s : State) (w : Word),
    (∀ i, decode w = .ok i → perform (.writeReg 0x04 w) s = exec i s) ∧
    (∀ e, decode w = .error e → perform (.writeReg 0x04 w) s = .next (issueIllegal w s)) ∧
    perform (.writeReg 0x08 w) s = .next (if w.toNat / 4 % 2 = 1 then { s with sat := false } else s) ∧
    perform (.writeReg 0x0C w) s = .next { s with errCode := 0#8, errCmd := 0#32 } ∧
    (∀ off ∈ [0x00, 0x10, 0x14], perform (.writeReg off w) s = .next s) ∧
    (∀ off, off % 4 = 0 → off ≤ 0xFC → (off = 0x18 ∨ off = 0x1C ∨ 0x6C ≤ off) →
      perform (.writeReg off w) s = .next s) ∧
    ∀ r : Reg, isParameter r = true →
      ∃ t, perform (.writeReg (regOffset r) w) s = .next t ∧
        (t.readReg r).toNat = w.toNat % 2 ^ regWidth r ∧
        (∀ r', r' ≠ r → t.readReg r' = s.readReg r') ∧
        (∀ f, t.frame f = s.frame f) ∧ (∀ p, t.plane p = s.plane p) ∧
        t.cfg = s.cfg ∧ t.script = s.script ∧ t.response = s.response

/-- 44_system.md R192, whole: the read of a register changes nothing and returns the constant, the status bits, or the
stored bits zero-extended. The response field is the model's (log 3). -/
def Obligations.HostRegisterRead : Prop :=
  ∀ (s : State) (off : Nat), off % 4 = 0 → off ≤ 0xFC →
    ∃ v : Word, perform (.readReg off) s = .next { s with response := some (.word v) } ∧
      (off = 0x00 → v = 0x4E545131#32) ∧ (off = 0x04 → v = 0#32) ∧
      (off = 0x08 → v.toNat = (if s.sat then 4 else 0) + (if s.errCode = 0#8 then 0 else 2)) ∧
      (off = 0x0C → v.toNat = s.errCode.toNat) ∧ (off = 0x10 → v = s.errCmd) ∧ (off = 0x14 → v = s.cmdCnt) ∧
      (off = 0x18 ∨ off = 0x1C ∨ 0x6C ≤ off → v = 0#32) ∧
      (off = 0x20 → v.toNat = s.srcH.toNat) ∧ (off = 0x24 → v.toNat = s.srcW.toNat) ∧
      (off = 0x28 → v.toNat = s.dstH.toNat) ∧ (off = 0x2C → v.toNat = s.dstW.toNat) ∧
      (off = 0x30 → v.toNat = s.plH.toNat) ∧ (off = 0x34 → v.toNat = s.plW.toNat) ∧
      (off = 0x38 → v.toNat = s.field.toNat) ∧ (off = 0x3C → v = s.fieldNo) ∧
      (off = 0x40 → v.toNat = s.phaseMode.toNat) ∧ (off = 0x44 → v = s.phaseOffset) ∧
      (off = 0x48 → v.toNat = s.scAmpl.toNat) ∧ (off = 0x4C → v.toNat = s.fltAlpha.toNat) ∧
      (off = 0x50 → v = s.fltReset) ∧ (off = 0x54 → v.toNat = s.preAmt.toNat) ∧
      (off = 0x58 → v.toNat = s.lnoiseAmp.toNat) ∧ (off = 0x5C → v.toNat = s.cnoiseAmp.toNat) ∧
      (off = 0x60 → v.toNat = s.pnoiseAmp.toNat) ∧ (off = 0x64 → v = s.chromaLoss) ∧
      (off = 0x68 → v = s.prngState)

/-- 44_system.md R193: the memory transactions are plain storage. A write completes and changes one location, whatever
the shapes and the latched fault are; a read returns what the location holds; a location never written has no value
and stops the model (10_state.md R55). -/
def Obligations.HostMemoryIsPlainStorage : Prop :=
  (∀ (s : State) (f : Frame) (k : Nat) (v : Byte), k < frameSize s.cfg →
    ∃ t, perform (.writeByte f k v) s = .next t ∧ t = s.setFrame f (t.frame f) ∧
      (∀ k', memGet (t.frame f) k' = if k' = k then some v else memGet (s.frame f) k') ∧
      perform (.readByte f k) t = .next { t with response := some (.byte v) }) ∧
  (∀ (s : State) (p : Plane) (k : Nat) (v : Sample), k < planeSize s.cfg →
    ∃ t, perform (.writeSample p k v) s = .next t ∧ t = s.setPlane p (t.plane p) ∧
      (∀ k', memGet (t.plane p) k' = if k' = k then some v else memGet (s.plane p) k') ∧
      perform (.readSample p k) t = .next { t with response := some (.sample v) }) ∧
  (∀ (s : State) (f : Frame) (k : Nat), k < frameSize s.cfg → memGet (s.frame f) k = none →
    perform (.readByte f k) s = .fault (.unwrittenByte f k)) ∧
  ∀ (s : State) (p : Plane) (k : Nat), k < planeSize s.cfg → memGet (s.plane p) k = none →
    perform (.readSample p k) s = .fault (.unwrittenSample p k)

/-- 20_memory.md R65, 93_implementation_defined.md U3: an access that is no transaction of the interface is refused. -/
def Obligations.AccessesOutsideTheInterfaceAreRefused : Prop :=
  ∀ s : State,
    (∀ off w, off % 4 ≠ 0 ∨ 0xFC < off → perform (.writeReg off w) s = .refused (.badOffset off) ∧
      perform (.readReg off) s = .refused (.badOffset off)) ∧
    (∀ f k v, 3 * s.cfg.hmax * s.cfg.wmax ≤ k → perform (.writeByte f k v) s = .refused (.noSuchByte f k) ∧
      perform (.readByte f k) s = .refused (.noSuchByte f k)) ∧
    ∀ p k v, s.cfg.hmax * s.cfg.wmax ≤ k → perform (.writeSample p k v) s = .refused (.noSuchSample p k) ∧
      perform (.readSample p k) s = .refused (.noSuchSample p k)

/-- 20_memory.md R64: mapped to bytes, sample `k` of a plane is the four bytes `4k .. 4k+3`, least significant first. -/
def Obligations.PlaneSamplesAreLittleEndian : Prop :=
  ∀ (s : State) (p : Plane) (k : Nat) (v : Sample), memGet (s.plane p) k = some v →
    ∃ b0 b1 b2 b3 : Byte, s.planeByte p (4 * k) = some b0 ∧ s.planeByte p (4 * k + 1) = some b1 ∧
      s.planeByte p (4 * k + 2) = some b2 ∧ s.planeByte p (4 * k + 3) = some b3 ∧
      v.toNat = b0.toNat + 256 * b1.toNat + 65536 * b2.toNat + 16777216 * b3.toNat

/-- 20_memory.md R63, R72: every index inside a valid shape is below `H * W`, or `3 * H * W` for a frame, and that is
within its memory. -/
def Obligations.ValidShapesFitTheMemories : Prop :=
  ∀ s : State,
    (s.planeShapeValid = true → s.plH.toNat * s.plW.toNat ≤ planeSize s.cfg ∧
      ∀ r < s.plH.toNat, ∀ c < s.plW.toNat, s.planeIndex r c < s.plH.toNat * s.plW.toNat) ∧
    (s.srcShapeValid = true → 3 * s.srcH.toNat * s.srcW.toNat ≤ frameSize s.cfg ∧
      ∀ r < s.srcH.toNat, ∀ c < s.srcW.toNat, ∀ ch < 3, s.srcIndex r c ch < 3 * s.srcH.toNat * s.srcW.toNat) ∧
    (validHeight s.cfg s.dstH = true → validWidth s.cfg s.dstW = true →
      3 * s.dstH.toNat * s.dstW.toNat ≤ frameSize s.cfg ∧
      ∀ r < s.dstH.toNat, ∀ c < s.dstW.toNat, ∀ ch < 3, s.dstIndex r c ch < 3 * s.dstH.toNat * s.dstW.toNat)

/-! ### Operands -/

/-- 00_scope.md R10: the field rows are the rows of one parity, ascending, `fdiv(h - f + 1, 2)` of them. -/
def Obligations.FieldRowsOfOneParity : Prop :=
  ∀ f h : Nat, f < 2 →
    (∀ y, y ∈ fieldRows f h ↔ y < h ∧ y % 2 = f) ∧ (fieldRows f h).Pairwise (· < ·) ∧
    ((fieldRows f h).length : Int) = fdiv ((h : Int) - f + 1) 2

/-- 30_encoding.md R80: the bits of the plane mask. -/
def Obligations.PlaneMaskBits : Prop :=
  ∀ pm : BitVec 3,
    (planeSelected pm .y = true ↔ pm.toNat % 2 = 1) ∧ (planeSelected pm .i = true ↔ pm.toNat / 2 % 2 = 1) ∧
    (planeSelected pm .q = true ↔ pm.toNat / 4 = 1)

/-- 42_subcarrier.md R141: the scanline phase of each mode, always in 0..3. The reading of mode 2's parentheses is the
model's (log 9). -/
def Obligations.ScanlinePhaseOfEachMode : Prop :=
  ∀ (s : State) (y : Nat),
    s.xi y < 4 ∧
    (s.phaseMode = 0#3 → s.xi y = s.phaseOffset.toNat % 4) ∧
    (s.phaseMode = 1#3 → s.xi y = (s.fieldNo.toNat + s.phaseOffset.toNat + y / 2) % 4) ∧
    (s.phaseMode = 2#3 → s.xi y = ((if (s.fieldNo.toNat + y) % 4 < 2 then 0 else 2) + s.phaseOffset.toNat) % 4) ∧
    (s.phaseMode = 3#3 → (s.xi y + y / 2) % 4 = (s.fieldNo.toNat + s.phaseOffset.toNat) % 4)

/-- 41_filters.md R122: the reference coefficients of five cutoffs are values of `alphaOf`. -/
def Obligations.ReferenceCutoffCoefficients : Prop :=
  IsAlphaOf (ntscRate / 4) ntscRate 40044 ∧ IsAlphaOf 600000 ntscRate 13659 ∧ IsAlphaOf 1000000 ntscRate 19988 ∧
  IsAlphaOf 1300000 ntscRate 23806 ∧ IsAlphaOf 2400000 ntscRate 33617

/-- 43_noise.md R171: the checks the rule gives for the reference table, and the norm of R170. -/
def Obligations.RotationTableChecks : Prop :=
  ∀ c : Config, c.sincos = .reference →
    sincosAt c 0 = (16384, 0) ∧ sincosAt c 25 = (11585, 11585) ∧ sincosAt c 50 = (0, 16384) ∧
    sincosAt c 100 = (-16384, 0) ∧ sincosAt c 150 = (0, -16384) ∧ sincosAt c (-1) = (16376, -515) ∧
    sincosAt c 13 = (15036, 6507) ∧ sincosAt c 119 = (-13551, -9209) ∧
    ∀ acc : Int, ((sincosAt c acc).1 ^ 2 + (sincosAt c acc).2 ^ 2 - 2 ^ 28).natAbs ≤ 18206

/-! ### Colour-space converter -/

/-- 40_colorspace.md R101: `TOYIQ`, its checks in order, its effect and its frame. -/
def Obligations.ToyiqConvertsTheSourceFrame : Prop :=
  ∀ s : State, s.errCode = 0#8 →
    (¬(s.srcH = s.dstH ∧ s.srcW = s.dstW) → exec .toyiq s = .next { s with errCode := 2#8, errCmd := 1#32 }) ∧
    (s.srcH = s.dstH → s.srcW = s.dstW → s.srcShapeValid = false →
      exec .toyiq s = .next { s with errCode := 3#8, errCmd := 1#32 }) ∧
    (s.srcH = s.dstH → s.srcW = s.dstW → s.srcShapeValid = true → s.srcReadable = true → s.cfg.wf = true →
      ∃ t, exec .toyiq s = .next t ∧
        t = { s with
            plH := s.srcH, plW := s.srcW, planeY := t.planeY, planeI := t.planeI, planeQ := t.planeQ,
            cmdCnt := s.cmdCnt + 1#32 } ∧
        let luma : Nat → Nat → Int := fun r c => 30 * s.srcVal r c 2 + 59 * s.srcVal r c 1 + 11 * s.srcVal r c 0
        RowsBecome (List.range s.srcH.toNat) s t .y (fun r c => rdiv (256 * luma r c) 100) ∧
        RowsBecome (List.range s.srcH.toNat) s t .i (fun r c =>
          rdiv (256 * (s.cfg.kib * (100 * s.srcVal r c 0 - luma r c) + s.cfg.kir * (100 * s.srcVal r c 2 - luma r c)))
            10000) ∧
        RowsBecome (List.range s.srcH.toNat) s t .q (fun r c =>
          rdiv (256 * (s.cfg.kqb * (100 * s.srcVal r c 0 - luma r c) + s.cfg.kqr * (100 * s.srcVal r c 2 - luma r c)))
            10000))

/-- 40_colorspace.md R102: `FROMYIQ`, its checks in order, its effect and its frame. -/
def Obligations.FromyiqConvertsTheFieldRows : Prop :=
  ∀ s : State, s.errCode = 0#8 →
    (¬(s.dstH = s.plH ∧ s.dstW = s.plW) → exec .fromyiq s = .next { s with errCode := 2#8, errCmd := 2#32 }) ∧
    (s.dstH = s.plH → s.dstW = s.plW → s.planeShapeValid = false →
      exec .fromyiq s = .next { s with errCode := 3#8, errCmd := 2#32 }) ∧
    (s.dstH = s.plH → s.dstW = s.plW → s.planeShapeValid = true → (∀ p, s.fieldReadable p = true) →
      ∃ t, exec .fromyiq s = .next t ∧ t = { s with dst := t.dst, cmdCnt := s.cmdCnt + 1#32 } ∧
        PixelsBecome s.rows s t (fun r c =>
          (clip8 (rdiv (1000 * s.val .y r c + s.cfg.kbi * s.val .i r c + s.cfg.kbq * s.val .q r c) 256000),
           clip8 (rdiv (1000 * s.val .y r c + s.cfg.kgi * s.val .i r c + s.cfg.kgq * s.val .q r c) 256000),
           clip8 (rdiv (1000 * s.val .y r c + s.cfg.kri * s.val .i r c + s.cfg.krq * s.val .q r c) 256000))))

/-- 40_colorspace.md R101 (corner cases): a grey pixel has no chroma and luma `256 v` exactly, whatever the chroma
constants are. -/
def Obligations.GreyHasNoChroma : Prop :=
  ∀ (c : Config) (v : Int), toYiq c v v v = (256 * v, 0, 0)

/-- 40_colorspace.md R103: with the reference constants each channel comes back within 1. -/
def Obligations.PixelRoundTripWithinOne : Prop :=
  ∀ b g r : Int, 0 ≤ b → b ≤ 255 → 0 ≤ g → g ≤ 255 → 0 ≤ r → r ≤ 255 →
    let yiq := toYiq referenceConfig b g r
    let back := fromYiq referenceConfig yiq.1 yiq.2.1 yiq.2.2
    |back.1 - b| ≤ 1 ∧ |back.2.1 - g| ≤ 1 ∧ |back.2.2 - r| ≤ 1

/-! ### Filter unit -/

/-- 41_filters.md R123: `LPF`, its check, its effect and its frame. -/
def Obligations.LpfFiltersTheMaskedFieldRows : Prop :=
  ∀ (pm : BitVec 3) (s : State), s.errCode = 0#8 →
    (s.planeShapeValid = false →
      exec (.lpf pm) s = .next { s with errCode := 3#8, errCmd := BitVec.ofNat 32 (0x10 + 0x100 * pm.toNat) }) ∧
    (s.planeShapeValid = true → (∀ p, planeSelected pm p = true → s.fieldReadable p = true) →
      ∃ t, exec (.lpf pm) s = .next t ∧
        t = { s with planeY := t.planeY, planeI := t.planeI, planeQ := t.planeQ, cmdCnt := s.cmdCnt + 1#32 } ∧
        ∀ p, (planeSelected pm p = false → t.plane p = s.plane p) ∧
          (planeSelected pm p = true → RowsBecome s.rows s t p (fun r c =>
            (lpRow s.fltAlpha.toNat s.fltReset.toInt (s.rowOf p r)).getD c 0)))

/-- 41_filters.md R124: `HPF`, its check, its effect, its flag and its frame. -/
def Obligations.HpfSubtractsTheLowPass : Prop :=
  ∀ (pm : BitVec 3) (s : State), s.errCode = 0#8 →
    (s.planeShapeValid = false →
      exec (.hpf pm) s = .next { s with errCode := 3#8, errCmd := BitVec.ofNat 32 (0x11 + 0x100 * pm.toNat) }) ∧
    (s.planeShapeValid = true → (∀ p, planeSelected pm p = true → s.fieldReadable p = true) →
      ∃ t, exec (.hpf pm) s = .next t ∧
        t = { s with
            planeY := t.planeY, planeI := t.planeI, planeQ := t.planeQ, sat := t.sat,
            cmdCnt := s.cmdCnt + 1#32 } ∧
        let high : Plane → Nat → Nat → Int := fun p r c =>
          s.val p r c - (lpRow s.fltAlpha.toNat s.fltReset.toInt (s.rowOf p r)).getD c 0
        (t.sat = true ↔ s.sat = true ∨ ∃ p, planeSelected pm p = true ∧ FieldClamps s (high p)) ∧
        ∀ p, (planeSelected pm p = false → t.plane p = s.plane p) ∧
          (planeSelected pm p = true → RowsBecome s.rows s t p (fun r c => sat32 (high p r c))))

/-- 41_filters.md R125: `LPF3`, its check, its effect and its frame. -/
def Obligations.Lpf3FiltersInThreePasses : Prop :=
  ∀ (pm : BitVec 3) (s : State), s.errCode = 0#8 →
    (s.planeShapeValid = false →
      exec (.lpf3 pm) s = .next { s with errCode := 3#8, errCmd := BitVec.ofNat 32 (0x12 + 0x100 * pm.toNat) }) ∧
    (s.planeShapeValid = true → (∀ p, planeSelected pm p = true → s.fieldReadable p = true) →
      ∃ t, exec (.lpf3 pm) s = .next t ∧
        t = { s with planeY := t.planeY, planeI := t.planeI, planeQ := t.planeQ, cmdCnt := s.cmdCnt + 1#32 } ∧
        let pass : List Int → List Int := lpRow s.fltAlpha.toNat s.fltReset.toInt
        ∀ p, (planeSelected pm p = false → t.plane p = s.plane p) ∧
          (planeSelected pm p = true → RowsBecome s.rows s t p (fun r c =>
            (pass (pass (pass (s.rowOf p r)))).getD c 0)))

/-- 41_filters.md R125: `LPF3` has exactly the effect of three `LPF` with the same mask, stops included, except that
`CMDCNT` advances by 1 and not by 3. -/
def Obligations.Lpf3EqualsThreeLpf : Prop :=
  ∀ (pm : BitVec 3) (s : State), s.errCode = 0#8 → s.planeShapeValid = true → (∀ p, memWf (s.plane p) = true) →
    execAll [.lpf pm, .lpf pm, .lpf pm] s =
      mapNext (fun t => { t with cmdCnt := t.cmdCnt + 2#32 }) (exec (.lpf3 pm) s)

/-- 41_filters.md R126: `PREEMPH`, its check, its effect, its flag and its frame. -/
def Obligations.PreemphBoostsTheLuma : Prop :=
  ∀ s : State, s.errCode = 0#8 →
    (s.planeShapeValid = false → exec .preemph s = .next { s with errCode := 3#8, errCmd := 0x13#32 }) ∧
    (s.planeShapeValid = true → s.fieldReadable .y = true →
      ∃ t, exec .preemph s = .next t ∧
        t = { s with planeY := t.planeY, sat := t.sat, cmdCnt := s.cmdCnt + 1#32 } ∧
        let boosted : Nat → Nat → Int := fun r c =>
          s.val .y r c +
            rdiv ((s.val .y r c - (lpRow s.fltAlpha.toNat 16 (s.rowOf .y r)).getD c 0) * s.preAmt.toInt) 256
        (t.sat = true ↔ s.sat = true ∨ FieldClamps s boosted) ∧
        RowsBecome s.rows s t .y (fun r c => sat32 (boosted r c)))

/-- 41_filters.md R129, whole: `PREEMPH` with amount 0 and the three filters with an empty mask change no sample, and
for no coefficient is the low-pass the identity on the rows of 32-bit samples. -/
def Obligations.NeutralFilterSettingsChangeNothing : Prop :=
  (∀ a v0 : Int, 0 ≤ a → a ≤ 65535 → -2 ^ 31 ≤ v0 → v0 < 2 ^ 31 →
    ∃ x : Int, -2 ^ 31 ≤ x ∧ x < 2 ^ 31 ∧ lpRow a v0 [x] ≠ [x]) ∧
  ∀ s : State, s.errCode = 0#8 → s.planeShapeValid = true →
    exec (.lpf 0#3) s = .next { s with cmdCnt := s.cmdCnt + 1#32 } ∧
    exec (.hpf 0#3) s = .next { s with cmdCnt := s.cmdCnt + 1#32 } ∧
    exec (.lpf3 0#3) s = .next { s with cmdCnt := s.cmdCnt + 1#32 } ∧
    (s.preAmt = 0#16 → s.fieldReadable .y = true →
      ∃ t, exec .preemph s = .next t ∧ t = { s with planeY := t.planeY, cmdCnt := s.cmdCnt + 1#32 } ∧
        ∀ k, memGet t.planeY k = memGet s.planeY k)

/-- 41_filters.md R127: the filter state and every output stay between the bounds of the reset value and the inputs. -/
def Obligations.LowPassStaysWithinItsInputs : Prop :=
  ∀ (a v0 lo hi : Int) (xs : List Int), 0 ≤ a → a ≤ 65535 → lo ≤ v0 → v0 ≤ hi → (∀ x ∈ xs, lo ≤ x ∧ x ≤ hi) →
    (∀ p ∈ lpStates a (v0 * 65536) xs, lo * 65536 ≤ p ∧ p ≤ hi * 65536) ∧
    ∀ v ∈ lpRow a v0 xs, lo ≤ v ∧ v ≤ hi

/-- 41_filters.md R128: the distance of the filter from the recurrence over the rationals. -/
def Obligations.LowPassTracksTheExactRecurrence : Prop :=
  ∀ (a v0 : Int) (xs : List Int), 0 < a → a ≤ 65535 → ∀ n < xs.length,
    let alpha : Rat := a / 65536
    let y := (exactLp alpha v0 xs).getD n 0
    let p : Rat := (lpStates a (v0 * 65536) xs).getD n 0
    let out : Rat := (lpRow a v0 xs).getD n 0
    0 ≤ y - p / 65536 ∧ y - p / 65536 < 1 / 65536 / alpha ∧ |out - y| ≤ 1 / 2 + 1 / 65536 / alpha

/-! ### Subcarrier codec -/

/-- 42_subcarrier.md R143, whole: `C2L`, its checks, its effect, its flag and its frame; and four consecutive carrier
samples of constant chroma, scaled, sum to 0. -/
def Obligations.C2lPutsChromaIntoLuma : Prop :=
  (∀ (i q a : Int) (ph : Nat),
    tdiv (car i q (ph % 4) * a) 50 + tdiv (car i q ((ph + 1) % 4) * a) 50 +
      tdiv (car i q ((ph + 2) % 4) * a) 50 + tdiv (car i q ((ph + 3) % 4) * a) 50 = 0) ∧
  ∀ s : State, s.errCode = 0#8 →
    (s.planeShapeValid = false ∨ 3 < s.phaseMode.toNat →
      exec .c2l s = .next { s with errCode := 3#8, errCmd := 0x20#32 }) ∧
    (s.planeShapeValid = true → s.phaseMode.toNat ≤ 3 → (∀ p, s.fieldReadable p = true) →
      ∃ t, exec .c2l s = .next t ∧
        t = { s with
            planeY := t.planeY, planeI := t.planeI, planeQ := t.planeQ, sat := t.sat,
            cmdCnt := s.cmdCnt + 1#32 } ∧
        let carrier : Nat → Nat → Int := fun r c =>
          if (c + s.xi r) % 4 = 0 then s.val .i r c else if (c + s.xi r) % 4 = 1 then s.val .q r c
          else if (c + s.xi r) % 4 = 2 then -s.val .i r c else -s.val .q r c
        let composite : Nat → Nat → Int := fun r c => s.val .y r c + tdiv (carrier r c * s.scAmpl.toNat) 50
        (t.sat = true ↔ s.sat = true ∨ FieldClamps s composite) ∧
        RowsBecome s.rows s t .y (fun r c => sat32 (composite r c)) ∧
        RowsBecome s.rows s t .i (fun _ _ => 0) ∧ RowsBecome s.rows s t .q (fun _ _ => 0))

/-- 42_subcarrier.md R144, R145: `L2C`, its checks, its no-op test, its effect, its flag and its frame. The terms
(`smoothed`, `decoded`, …) are the rules' formulas, sample by sample. -/
def Obligations.L2cDecodesTheLuma : Prop :=
  ∀ s : State, s.errCode = 0#8 →
    (s.planeShapeValid = false ∨ 3 < s.phaseMode.toNat →
      exec .l2c s = .next { s with errCode := 3#8, errCmd := 0x21#32 }) ∧
    (s.planeShapeValid = true → s.phaseMode.toNat ≤ 3 → s.scAmpl = 0#16 →
      exec .l2c s = .next { s with cmdCnt := s.cmdCnt + 1#32 }) ∧
    (s.planeShapeValid = true → s.phaseMode.toNat ≤ 3 → s.scAmpl ≠ 0#16 → s.fieldReadable .y = true →
      ∃ t, exec .l2c s = .next t ∧
        t = { s with
            planeY := t.planeY, planeI := t.planeI, planeQ := t.planeQ, sat := t.sat,
            cmdCnt := s.cmdCnt + 1#32 } ∧
        (t.sat = true ↔ s.sat = true ∨ ∃ r ∈ s.rows, ∃ c < s.plW.toNat, c % 2 = 0 ∧
          (clamps (s.decodedEven r (s.xi r) c) = true ∨ clamps (s.decodedEven r (s.xi r + 1) c) = true)) ∧
        RowsBecome s.rows s t .y (fun r c => s.smoothed r c) ∧
        RowsBecome s.rows s t .i (fun r c => s.decoded r (s.xi r) c) ∧
        RowsBecome s.rows s t .q (fun r c => s.decoded r (s.xi r + 1) c))

/-- 42_subcarrier.md R146, whole: a field row constant in `Y`, `I` and `Q` comes back from `C2L` then `L2C`, away from
the row ends, when the encoded luma does not saturate. -/
def Obligations.ConstantRowSurvivesTheCodec : Prop :=
  ∀ (s s1 s2 : State) (c0 i0 q0 : Int) (y : Nat),
    s.errCode = 0#8 → s.planeShapeValid = true → s.phaseMode.toNat ≤ 3 → s.scAmpl ≠ 0#16 → y ∈ s.rows →
    (∀ x < s.plW.toNat, s.sampleAt .y y x = some c0 ∧ s.sampleAt .i y x = some i0 ∧ s.sampleAt .q y x = some q0) →
    (∀ m ∈ [i0, q0, -i0, -q0], clamps (c0 + tdiv (m * s.scAmpl.toNat) 50) = false) →
    exec .c2l s = .next s1 → exec .l2c s1 = .next s2 →
    let a : Int := s.scAmpl.toNat
    let k := s.xi y
    let iBack := tdiv (tdiv (i0 * a) 50 * 50) a
    let qBack := tdiv (tdiv (q0 * a) 50 * 50) a
    (∀ x, 1 ≤ x → x + 3 ≤ s.plW.toNat → s2.sampleAt .y y x = some c0) ∧
    (∀ x, x % 2 = 0 → 1 ≤ x + k → x + k + 3 ≤ s.plW.toNat → s2.sampleAt .i y x = some iBack) ∧
    (∀ x, x % 2 = 0 → x + k + 4 ≤ s.plW.toNat → s2.sampleAt .q y x = some qBack) ∧
    (∀ x, x % 2 = 1 → 1 ≤ x - 1 + k → x + 1 + k + 3 ≤ s.plW.toNat → s2.sampleAt .i y x = some iBack) ∧
    (∀ x, x % 2 = 1 → x + 1 + k + 4 ≤ s.plW.toNat → s2.sampleAt .q y x = some qBack) ∧
    (s.scAmpl = 50#16 → iBack = i0 ∧ qBack = q0)

/-! ### Noise generator unit -/

/-- 43_noise.md R162: a draw is the output of the new state reduced, it is below its argument, and it takes one step of
the generator; the reference generator is the one of R161. -/
def Obligations.DrawStepsTheGeneratorOnce : Prop :=
  (∀ (c : Config) (n : Nat) (st : Word), 1 ≤ n → n ≤ 2 ^ 24 →
    (draw c n st).2 = prngNext c st ∧ (draw c n st).1 = prngOut c (prngNext c st) % n ∧ (draw c n st).1 < n) ∧
  ∀ (c : Config) (st : Word), c.prng = .reference →
    (prngNext c st).toNat = (st.toNat * 1664525 + 1013904223) % 2 ^ 32 ∧ prngOut c st = st.toNat / 2 ^ 8

/-- 43_noise.md R163, whole: one step of the walk adds the draw and then halves toward zero, and the accumulator never
exceeds the amplitude. -/
def Obligations.WalkStaysWithinTheAmplitude : Prop :=
  ∀ (c : Config) (amp : Nat), 1 ≤ amp →
    (∀ (acc : Int) (st : Word), walkStep c amp acc st =
      (tdiv (acc + (((draw c (2 * amp + 1) st).1 : Nat) - (amp : Int))) 2, prngNext c st)) ∧
    ∀ (st : Word) (n : Nat), (accAfter c amp st n).natAbs ≤ amp ∧ (amp ≤ 65535 → (accAfter c amp st n).natAbs ≤ 65535)

/-- 43_noise.md R164: `LNOISE`, its check, its no-op test, its effect, its flag, its draws and its frame. -/
def Obligations.LnoiseAddsAWalkToEachRow : Prop :=
  ∀ s : State, s.errCode = 0#8 →
    (s.planeShapeValid = false → exec .lnoise s = .next { s with errCode := 3#8, errCmd := 0x30#32 }) ∧
    (s.planeShapeValid = true → s.lnoiseAmp = 0#16 → exec .lnoise s = .next { s with cmdCnt := s.cmdCnt + 1#32 }) ∧
    (s.planeShapeValid = true → s.lnoiseAmp ≠ 0#16 → s.fieldReadable .y = true →
      ∃ t, exec .lnoise s = .next t ∧
        t = { s with
            planeY := t.planeY, sat := t.sat, cmdCnt := s.cmdCnt + 1#32,
            prngState := prngAfter s.cfg s.prngState (s.rows.length * s.plW.toNat) } ∧
        let noisy : Nat → Nat → Int := fun r c =>
          s.val .y r c +
            accAfter s.cfg s.lnoiseAmp.toNat (prngAfter s.cfg s.prngState (r / 2 * s.plW.toNat)) (c + 1)
        (t.sat = true ↔ s.sat = true ∨ FieldClamps s noisy) ∧
        RowsBecome s.rows s t .y (fun r c => sat32 (noisy r c)))

/-- 43_noise.md R165: `CNOISE`, its check, its no-op test, its effect, its flag, its draws and its frame. -/
def Obligations.CnoiseAddsAWalkToEachChromaRow : Prop :=
  ∀ s : State, s.errCode = 0#8 →
    (s.planeShapeValid = false → exec .cnoise s = .next { s with errCode := 3#8, errCmd := 0x31#32 }) ∧
    (s.planeShapeValid = true → s.cnoiseAmp = 0#16 → exec .cnoise s = .next { s with cmdCnt := s.cmdCnt + 1#32 }) ∧
    (s.planeShapeValid = true → s.cnoiseAmp ≠ 0#16 → s.fieldReadable .i = true → s.fieldReadable .q = true →
      ∃ t, exec .cnoise s = .next t ∧
        t = { s with
            planeI := t.planeI, planeQ := t.planeQ, sat := t.sat, cmdCnt := s.cmdCnt + 1#32,
            prngState := prngAfter s.cfg s.prngState (2 * s.rows.length * s.plW.toNat) } ∧
        let noisy : Plane → Nat → Nat → Nat → Int := fun p first r c =>
          s.val p r c + accAfter s.cfg s.cnoiseAmp.toNat
            (prngAfter s.cfg s.prngState ((2 * (r / 2) + first) * s.plW.toNat)) (c + 1)
        (t.sat = true ↔ s.sat = true ∨ FieldClamps s (noisy .i 0) ∨ FieldClamps s (noisy .q 1)) ∧
        RowsBecome s.rows s t .i (fun r c => sat32 (noisy .i 0 r c)) ∧
        RowsBecome s.rows s t .q (fun r c => sat32 (noisy .q 1 r c)))

/-- 43_noise.md R170: `PNOISE`, its check, its no-op test, its effect, its flag, its draws and its frame. -/
def Obligations.PnoiseRotatesTheChroma : Prop :=
  ∀ s : State, s.errCode = 0#8 →
    (s.planeShapeValid = false → exec .pnoise s = .next { s with errCode := 3#8, errCmd := 0x32#32 }) ∧
    (s.planeShapeValid = true → s.pnoiseAmp = 0#16 → exec .pnoise s = .next { s with cmdCnt := s.cmdCnt + 1#32 }) ∧
    (s.planeShapeValid = true → s.pnoiseAmp ≠ 0#16 → s.fieldReadable .i = true → s.fieldReadable .q = true →
      ∃ t, exec .pnoise s = .next t ∧
        t = { s with
            planeI := t.planeI, planeQ := t.planeQ, sat := t.sat, cmdCnt := s.cmdCnt + 1#32,
            prngState := prngAfter s.cfg s.prngState s.rows.length } ∧
        let angle : Nat → Int × Int := fun r =>
          sincosAt s.cfg (accAfter s.cfg s.pnoiseAmp.toNat s.prngState (r / 2 + 1))
        let turnedI : Nat → Nat → Int := fun r c =>
          rdiv (s.val .i r c * (angle r).1 - s.val .q r c * (angle r).2) 16384
        let turnedQ : Nat → Nat → Int := fun r c =>
          rdiv (s.val .i r c * (angle r).2 + s.val .q r c * (angle r).1) 16384
        (t.sat = true ↔ s.sat = true ∨ FieldClamps s turnedI ∨ FieldClamps s turnedQ) ∧
        RowsBecome s.rows s t .i (fun r c => sat32 (turnedI r c)) ∧
        RowsBecome s.rows s t .q (fun r c => sat32 (turnedQ r c)))

/-- 43_noise.md R175: `DROPOUT`, its check, its no-op test, its effect, its draws and its frame. It reads no sample. -/
def Obligations.DropoutZeroesTheDrawnRows : Prop :=
  ∀ s : State, s.errCode = 0#8 →
    (s.planeShapeValid = false → exec .dropout s = .next { s with errCode := 3#8, errCmd := 0x33#32 }) ∧
    (s.planeShapeValid = true → s.chromaLoss = 0#32 → exec .dropout s = .next { s with cmdCnt := s.cmdCnt + 1#32 }) ∧
    (s.planeShapeValid = true → s.chromaLoss ≠ 0#32 →
      ∃ t, exec .dropout s = .next t ∧
        t = { s with
            planeI := t.planeI, planeQ := t.planeQ, cmdCnt := s.cmdCnt + 1#32,
            prngState := prngAfter s.cfg s.prngState s.rows.length } ∧
        let dropped : List Nat :=
          s.rows.filter (fun r => nthDraw s.cfg s.prngState 100000 (r / 2 + 1) < s.chromaLoss.toNat)
        RowsBecome dropped s t .i (fun _ _ => 0) ∧ RowsBecome dropped s t .q (fun _ _ => 0))

/-- 43_noise.md R176, whole: at their neutral values the four commands change neither a sample nor `PRNG_STATE`. -/
def Obligations.NeutralNoiseChangesNothing : Prop :=
  ∀ s : State, s.errCode = 0#8 → s.planeShapeValid = true →
    s.lnoiseAmp = 0#16 → s.cnoiseAmp = 0#16 → s.pnoiseAmp = 0#16 → s.chromaLoss = 0#32 →
    ∀ i ∈ [Instr.lnoise, .cnoise, .pnoise, .dropout], exec i s = .next { s with cmdCnt := s.cmdCnt + 1#32 }

/-! ### System -/

/-- 44_system.md R194: `NOP` has no check and no effect but the count, and is discarded while a fault is latched;
0x00000100 is not a `NOP`. -/
def Obligations.NopOnlyCounts : Prop :=
  (∀ s : State, s.errCode = 0#8 → exec .nop s = .next { s with cmdCnt := s.cmdCnt + 1#32 }) ∧
  (∀ s : State, s.errCode ≠ 0#8 → exec .nop s = .next s) ∧
  ∃ e, decode 0x00000100#32 = .error e
end

