-- ==== Sys2Proof/Laws/Arith.lean ====
section
/-! SUPPORT. The laws of the arithmetic primitives, of saturation and clipping, and of the generator and its walk. -/

namespace Sys2Proof.Machine

/-! ### Division (00_scope.md R7) -/

/-- `fdiv(a, b)` is the largest `q` with `q*b <= a`. -/
theorem fdiv_spec (a : Int) {b : Int} (hb : 0 < b) : fdiv a b * b ≤ a ∧ a < (fdiv a b + 1) * b := by
  have h1 := Int.emod_add_mul_ediv a b
  have h2 := Int.emod_nonneg a (Int.ne_of_gt hb)
  have h3 := Int.emod_lt_of_pos a hb
  have h4 : b * (a / b) = fdiv a b * b := Int.mul_comm _ _
  have h5 : (fdiv a b + 1) * b = fdiv a b * b + b := by ring
  exact ⟨by omega, by omega⟩

theorem tdiv_neg (a b : Int) : tdiv (-a) b = -tdiv a b := by
  unfold tdiv
  rcases lt_trichotomy a 0 with h | h | h
  · rw [if_pos (by omega), if_neg (by omega), Int.neg_neg]
  · subst h
    simp [fdiv]
  · rw [if_neg (by omega), if_pos (by omega), Int.neg_neg]

@[simp] theorem tdiv_zero_left (b : Int) : tdiv 0 b = 0 := by simp [tdiv, fdiv]

theorem rdiv_spec (a : Int) {b : Int} (hb : 0 < b) : 2 * (rdiv a b) * b ≤ 2 * a + b ∧ 2 * a < (2 * rdiv a b + 1) * b := by
  obtain ⟨h1, h2⟩ := fdiv_spec (2 * a + b) (show (0 : Int) < 2 * b by omega)
  unfold rdiv
  generalize fdiv (2 * a + b) (2 * b) = v at *
  constructor <;> nlinarith

theorem fmod_lt (a : Int) {n : Nat} (hn : 0 < n) : fmod a n < n := by
  have := Int.emod_lt_of_pos a (show (0 : Int) < n by omega)
  have := Int.emod_nonneg a (show (n : Int) ≠ 0 by omega)
  unfold fmod
  omega

/-! ### Saturation and clipping (00_scope.md R8) -/

theorem sat32_range (v : Int) : sampleMin ≤ sat32 v ∧ sat32 v ≤ sampleMax := by
  unfold sat32 sampleMin sampleMax
  split
  · omega
  · split <;> omega

theorem sat32_of_not_clamps {v : Int} (h : clamps v = false) : sat32 v = v := by
  simp only [clamps, Bool.or_eq_false_iff, decide_eq_false_iff_not] at h
  unfold sat32
  rw [if_neg h.1, if_neg h.2]

theorem clip8_range (v : Int) : 0 ≤ clip8 v ∧ clip8 v ≤ 255 := by
  unfold clip8
  split
  · omega
  · split <;> omega

/-- A value in the range of a sample is stored and read back exactly. -/
theorem toInt_ofInt_of_range {v : Int} (h1 : sampleMin ≤ v) (h2 : v ≤ sampleMax) : (BitVec.ofInt 32 v).toInt = v := by
  unfold sampleMin at h1
  unfold sampleMax at h2
  rw [BitVec.toInt_ofInt]
  exact Int.bmod_eq_of_le (by omega) (by omega)

@[simp] theorem toInt_ofInt_sat32 (v : Int) : (BitVec.ofInt 32 (sat32 v)).toInt = sat32 v :=
  toInt_ofInt_of_range (sat32_range v).1 (sat32_range v).2

/-! ### The generator and the walk (43_noise.md R160 to R163) -/

theorem draw_fst (c : Config) (n : Nat) (st : Word) : (draw c n st).1 = prngOut c (prngNext c st) % n := rfl

@[simp] theorem draw_snd (c : Config) (n : Nat) (st : Word) : (draw c n st).2 = prngNext c st := rfl

/-- A draw is below its argument. -/
theorem draw_lt (c : Config) {n : Nat} (hn : 0 < n) (st : Word) : (draw c n st).1 < n := Nat.mod_lt _ hn

@[simp] theorem prngAfter_zero (c : Config) (st : Word) : prngAfter c st 0 = st := rfl

theorem prngAfter_succ (c : Config) (st : Word) (n : Nat) : prngAfter c st (n + 1) = prngNext c (prngAfter c st n) := by
  unfold prngAfter
  rw [Function.iterate_succ_apply']

theorem prngAfter_add (c : Config) (st : Word) (n m : Nat) :
    prngAfter c (prngAfter c st n) m = prngAfter c st (n + m) := by
  unfold prngAfter
  rw [Nat.add_comm, Function.iterate_add_apply]

/-- One step of the walk from the accumulator after `n` draws gives the accumulator after `n + 1`. -/
theorem walkStep_accAfter (c : Config) (amp : Nat) (st : Word) (n : Nat) :
    walkStep c amp (accAfter c amp st n) (prngAfter c st n) =
      (accAfter c amp st (n + 1), prngAfter c st (n + 1)) := by
  simp only [walkStep, accAfter, nthDraw, draw, prngAfter_succ]

theorem walk_from (c : Config) (amp : Nat) (st : Word) (n k : Nat) :
    walk c amp n (accAfter c amp st k) (prngAfter c st k) =
      ((List.range n).map (fun j => accAfter c amp st (k + j + 1)), prngAfter c st (k + n)) := by
  induction n generalizing k with
  | zero => simp [walk]
  | succ n ih =>
    simp only [walk, walkStep_accAfter, ih (k + 1), List.range_succ_eq_map, List.map_cons, List.map_map]
    refine Prod.ext ?_ (by simp only; congr 1; omega)
    simp only [Nat.add_zero, List.cons.injEq, true_and]
    refine List.map_congr_left (fun j _ => ?_)
    simp only [Function.comp]
    congr 1
    omega

/-- What a walk of `n` steps from 0 gives: the accumulators after 1 to `n` draws, and the generator after `n`. -/
theorem walk_spec (c : Config) (amp : Nat) (st : Word) (n : Nat) :
    walk c amp n 0 st = ((List.range n).map (fun j => accAfter c amp st (j + 1)), prngAfter c st n) := by
  have := walk_from c amp st n 0
  simpa [accAfter] using this

end Sys2Proof.Machine
end

