-- ==== Sys2Proof/Laws/Memory.lean ====
section
/-! SUPPORT. The laws of one memory: read after write, a write leaves every other address alone, every operation keeps
the canonical form and the bound on the addresses, and equal readings mean equal memories. -/

namespace Sys2Proof.Machine

variable {w : Nat}

/-! ### One unit -/

@[simp] theorem memGet_nil (a : Nat) : memGet ([] : Memory w) a = none := rfl

@[simp] theorem memGet_memSet_same (m : Memory w) (a : Nat) (v : BitVec w) : memGet (memSet m a v) a = some v := by
  induction m with
  | nil => simp [memSet, memGet]
  | cons e m ih =>
    obtain ⟨b, u⟩ := e
    by_cases h1 : a < b
    · simp [memSet, memGet, h1]
    · by_cases h2 : a = b
      · simp [memSet, memGet, h2]
      · simp [memSet, memGet, h1, h2, ih]

theorem memGet_memSet_other (m : Memory w) (a k : Nat) (v : BitVec w) (h : k ≠ a) :
    memGet (memSet m a v) k = memGet m k := by
  induction m with
  | nil => simp [memSet, memGet, h]
  | cons e m ih =>
    obtain ⟨b, u⟩ := e
    by_cases h1 : a < b
    · simp [memSet, memGet, h1, h]
    · by_cases h2 : a = b
      · subst h2
        simp [memSet, memGet, h]
      · simp only [memSet, h1, h2, if_false, memGet, ih]

theorem memGet_memSet (m : Memory w) (a k : Nat) (v : BitVec w) :
    memGet (memSet m a v) k = if k = a then some v else memGet m k := by
  by_cases h : k = a
  · subst h
    simp
  · simp [h, memGet_memSet_other]

/-! ### The canonical form and the bound -/

theorem memWfAbove_mono {lo lo' : Nat} (h : lo' ≤ lo) {m : Memory w} (hm : memWfAbove lo m = true) :
    memWfAbove lo' m = true := by
  cases m with
  | nil => rfl
  | cons e m =>
    obtain ⟨b, u⟩ := e
    simp only [memWfAbove, Bool.and_eq_true, decide_eq_true_eq] at hm ⊢
    exact ⟨by omega, hm.2⟩

theorem memWfAbove_memSet {lo : Nat} {m : Memory w} {a : Nat} (v : BitVec w) (ha : lo ≤ a)
    (hm : memWfAbove lo m = true) : memWfAbove lo (memSet m a v) = true := by
  induction m generalizing lo with
  | nil => simp [memSet, memWfAbove, ha]
  | cons e m ih =>
    obtain ⟨b, u⟩ := e
    simp only [memWfAbove, Bool.and_eq_true, decide_eq_true_eq] at hm
    by_cases h1 : a < b
    · have : a + 1 ≤ b := h1
      simp [memSet, memWfAbove, h1, ha, this, hm.2]
    · by_cases h2 : a = b
      · subst h2
        simp [memSet, memWfAbove, ha, hm.2]
      · simp [memSet, memWfAbove, h1, h2, hm.1, ih (by omega : b + 1 ≤ a) hm.2]

theorem memWf_memSet {m : Memory w} (a : Nat) (v : BitVec w) (hm : memWf m = true) : memWf (memSet m a v) = true :=
  memWfAbove_memSet v (Nat.zero_le a) hm

theorem memBelow_memSet {size : Nat} {m : Memory w} {a : Nat} (v : BitVec w) (ha : a < size)
    (hm : memBelow size m = true) : memBelow size (memSet m a v) = true := by
  induction m with
  | nil => simp [memSet, memBelow, ha]
  | cons e m ih =>
    obtain ⟨b, u⟩ := e
    have hm' : b < size ∧ memBelow size m = true := by simpa [memBelow] using hm
    by_cases h1 : a < b
    · simpa [memSet, memBelow, h1, ha] using hm
    · by_cases h2 : a = b
      · simp only [memSet, h2, if_true]
        simpa [memBelow, hm'.1] using hm'.2
      · simp only [memSet, h1, h2, if_false]
        simpa [memBelow, hm'.1] using ih hm'.2

/-- An address below every entry holds nothing. -/
theorem memGet_none_of_above {lo a : Nat} (h : a < lo) {m : Memory w} (hm : memWfAbove lo m = true) :
    memGet m a = none := by
  induction m generalizing lo with
  | nil => rfl
  | cons e m ih =>
    obtain ⟨b, u⟩ := e
    simp only [memWfAbove, Bool.and_eq_true, decide_eq_true_eq] at hm
    simp only [memGet, if_neg (by omega : ¬ a = b)]
    exact ih (by omega) hm.2

theorem memExt_above {lo : Nat} {m m' : Memory w} (hm : memWfAbove lo m = true) (hm' : memWfAbove lo m' = true)
    (h : ∀ a, memGet m a = memGet m' a) : m = m' := by
  induction m generalizing lo m' with
  | nil =>
    cases m' with
    | nil => rfl
    | cons e m' => exact absurd (h e.1) (by simp [memGet])
  | cons e m ih =>
    obtain ⟨b, u⟩ := e
    cases m' with
    | nil => exact absurd (h b) (by simp [memGet])
    | cons e' m' =>
      obtain ⟨b', u'⟩ := e'
      simp only [memWfAbove, Bool.and_eq_true, decide_eq_true_eq] at hm hm'
      have hb : b = b' := by
        rcases Nat.lt_trichotomy b b' with hlt | heq | hgt
        · have := h b
          simp only [memGet, if_true, if_neg (by omega : ¬ b = b')] at this
          rw [memGet_none_of_above (by omega : b < b' + 1) hm'.2] at this
          cases this
        · exact heq
        · have := h b'
          simp only [memGet, if_true, if_neg (by omega : ¬ b' = b)] at this
          rw [memGet_none_of_above (by omega : b' < b + 1) hm.2] at this
          cases this
      subst hb
      have hu : u = u' := by simpa [memGet] using h b
      subst hu
      have : m = m' := by
        refine ih hm.2 hm'.2 (fun a => ?_)
        by_cases ha : a = b
        · rw [memGet_none_of_above (by omega : a < b + 1) hm.2, memGet_none_of_above (by omega : a < b + 1) hm'.2]
        · simpa [memGet, ha] using h a
      rw [this]

/-- Canonical memories that read the same everywhere are the same data. -/
theorem memExt {m m' : Memory w} (hm : memWf m = true) (hm' : memWf m' = true)
    (h : ∀ a, memGet m a = memGet m' a) : m = m' := memExt_above hm hm' h

/-! ### Runs -/

theorem memGet_memSetRun (m : Memory w) (a k : Nat) (vs : List (BitVec w)) :
    memGet (memSetRun m a vs) k = if a ≤ k ∧ k < a + vs.length then vs[k - a]? else memGet m k := by
  induction vs generalizing m a with
  | nil =>
    rw [if_neg (by simp only [List.length_nil]; omega)]
    rfl
  | cons v vs ih =>
    simp only [memSetRun, ih, List.length_cons]
    by_cases h1 : k = a
    · subst h1
      rw [if_neg (by omega), if_pos (by omega)]
      simp
    · by_cases h2 : a + 1 ≤ k ∧ k < a + 1 + vs.length
      · rw [if_pos h2, if_pos (by omega), show k - a = (k - (a + 1)) + 1 by omega, List.getElem?_cons_succ]
      · rw [if_neg h2, if_neg (by omega), memGet_memSet_other _ _ _ _ h1]

theorem memWf_memSetRun {m : Memory w} (a : Nat) (vs : List (BitVec w)) (hm : memWf m = true) :
    memWf (memSetRun m a vs) = true := by
  induction vs generalizing m a with
  | nil => exact hm
  | cons v vs ih => exact ih (a + 1) (memWf_memSet a v hm)

theorem memBelow_memSetRun {size : Nat} {m : Memory w} {a : Nat} (vs : List (BitVec w)) (ha : a + vs.length ≤ size)
    (hm : memBelow size m = true) : memBelow size (memSetRun m a vs) = true := by
  induction vs generalizing m a with
  | nil => exact hm
  | cons v vs ih =>
    simp only [List.length_cons] at ha
    exact ih (by omega) (memBelow_memSet v (by omega) hm)

/-- What a run read can answer: the values of successive addresses, all of them written. -/
theorem memGetRun_ok {m : Memory w} {stop : Nat → Fault} {a n : Nat} {vs : List (BitVec w)}
    (h : memGetRun m stop a n = .ok vs) : vs.length = n ∧ ∀ j < n, memGet m (a + j) = vs[j]? := by
  induction n generalizing a vs with
  | zero =>
    simp only [memGetRun, Except.ok.injEq] at h
    subst h
    exact ⟨rfl, fun j hj => absurd hj (by omega)⟩
  | succ n ih =>
    simp only [memGetRun] at h
    split at h
    · cases h
    · rename_i v hv
      split at h
      · cases h
      · rename_i us hus
        simp only [Except.ok.injEq] at h
        subst h
        obtain ⟨hl, hg⟩ := ih hus
        refine ⟨by simp [hl], fun j hj => ?_⟩
        cases j with
        | zero => simpa using hv
        | succ j =>
          have := hg j (by omega)
          rw [List.getElem?_cons_succ, ← this]
          congr 1
          omega

/-- A run of written addresses is read. -/
theorem memGetRun_of_written {m : Memory w} (stop : Nat → Fault) {a n : Nat}
    (h : ∀ j < n, (memGet m (a + j)).isSome = true) : ∃ vs, memGetRun m stop a n = .ok vs := by
  induction n generalizing a with
  | zero => exact ⟨[], rfl⟩
  | succ n ih =>
    obtain ⟨vs, hvs⟩ := ih (a := a + 1) (fun j hj => by
      have := h (j + 1) (by omega)
      rwa [show a + (j + 1) = a + 1 + j by omega] at this)
    obtain ⟨v, hv⟩ := Option.isSome_iff_exists.mp (h 0 (by omega))
    refine ⟨v :: vs, ?_⟩
    simp only [Nat.add_zero] at hv
    simp [memGetRun, hv, hvs]

/-- What stops a run read: an address of it that holds nothing. -/
theorem memGetRun_error {m : Memory w} {stop : Nat → Fault} {a n : Nat} {e : Fault}
    (h : memGetRun m stop a n = .error e) : ∃ j < n, memGet m (a + j) = none ∧ e = stop (a + j) := by
  induction n generalizing a with
  | zero => cases h
  | succ n ih =>
    simp only [memGetRun] at h
    split at h
    · rename_i hv
      simp only [Except.error.injEq] at h
      exact ⟨0, by omega, by simpa using hv, by simpa using h.symm⟩
    · split at h
      · rename_i e' he
        simp only [Except.error.injEq] at h
        subst h
        obtain ⟨j, hj, hn, hs⟩ := ih he
        exact ⟨j + 1, by omega, by rw [← hn]; congr 1; omega, by rw [hs]; congr 1; omega⟩
      · cases h

end Sys2Proof.Machine
end

