-- ==== Sys2Proof/Laws/State.lean ====
section
/-! SUPPORT. One lemma per field per update of State, so that no proof unfolds a record update. -/

namespace Sys2Proof.Machine

/-! ### noteSat -/

@[simp] theorem State.noteSat_sat (s : State) (b : Bool) :
    (s.noteSat b).sat = (s.sat || b) := rfl
@[simp] theorem State.noteSat_errCode (s : State) (b : Bool) :
    (s.noteSat b).errCode = s.errCode := rfl
@[simp] theorem State.noteSat_errCmd (s : State) (b : Bool) :
    (s.noteSat b).errCmd = s.errCmd := rfl
@[simp] theorem State.noteSat_cmdCnt (s : State) (b : Bool) :
    (s.noteSat b).cmdCnt = s.cmdCnt := rfl
@[simp] theorem State.noteSat_srcH (s : State) (b : Bool) :
    (s.noteSat b).srcH = s.srcH := rfl
@[simp] theorem State.noteSat_srcW (s : State) (b : Bool) :
    (s.noteSat b).srcW = s.srcW := rfl
@[simp] theorem State.noteSat_dstH (s : State) (b : Bool) :
    (s.noteSat b).dstH = s.dstH := rfl
@[simp] theorem State.noteSat_dstW (s : State) (b : Bool) :
    (s.noteSat b).dstW = s.dstW := rfl
@[simp] theorem State.noteSat_plH (s : State) (b : Bool) :
    (s.noteSat b).plH = s.plH := rfl
@[simp] theorem State.noteSat_plW (s : State) (b : Bool) :
    (s.noteSat b).plW = s.plW := rfl
@[simp] theorem State.noteSat_field (s : State) (b : Bool) :
    (s.noteSat b).field = s.field := rfl
@[simp] theorem State.noteSat_fieldNo (s : State) (b : Bool) :
    (s.noteSat b).fieldNo = s.fieldNo := rfl
@[simp] theorem State.noteSat_phaseMode (s : State) (b : Bool) :
    (s.noteSat b).phaseMode = s.phaseMode := rfl
@[simp] theorem State.noteSat_phaseOffset (s : State) (b : Bool) :
    (s.noteSat b).phaseOffset = s.phaseOffset := rfl
@[simp] theorem State.noteSat_scAmpl (s : State) (b : Bool) :
    (s.noteSat b).scAmpl = s.scAmpl := rfl
@[simp] theorem State.noteSat_fltAlpha (s : State) (b : Bool) :
    (s.noteSat b).fltAlpha = s.fltAlpha := rfl
@[simp] theorem State.noteSat_fltReset (s : State) (b : Bool) :
    (s.noteSat b).fltReset = s.fltReset := rfl
@[simp] theorem State.noteSat_preAmt (s : State) (b : Bool) :
    (s.noteSat b).preAmt = s.preAmt := rfl
@[simp] theorem State.noteSat_lnoiseAmp (s : State) (b : Bool) :
    (s.noteSat b).lnoiseAmp = s.lnoiseAmp := rfl
@[simp] theorem State.noteSat_cnoiseAmp (s : State) (b : Bool) :
    (s.noteSat b).cnoiseAmp = s.cnoiseAmp := rfl
@[simp] theorem State.noteSat_pnoiseAmp (s : State) (b : Bool) :
    (s.noteSat b).pnoiseAmp = s.pnoiseAmp := rfl
@[simp] theorem State.noteSat_chromaLoss (s : State) (b : Bool) :
    (s.noteSat b).chromaLoss = s.chromaLoss := rfl
@[simp] theorem State.noteSat_prngState (s : State) (b : Bool) :
    (s.noteSat b).prngState = s.prngState := rfl
@[simp] theorem State.noteSat_src (s : State) (b : Bool) :
    (s.noteSat b).src = s.src := rfl
@[simp] theorem State.noteSat_dst (s : State) (b : Bool) :
    (s.noteSat b).dst = s.dst := rfl
@[simp] theorem State.noteSat_planeY (s : State) (b : Bool) :
    (s.noteSat b).planeY = s.planeY := rfl
@[simp] theorem State.noteSat_planeI (s : State) (b : Bool) :
    (s.noteSat b).planeI = s.planeI := rfl
@[simp] theorem State.noteSat_planeQ (s : State) (b : Bool) :
    (s.noteSat b).planeQ = s.planeQ := rfl
@[simp] theorem State.noteSat_cfg (s : State) (b : Bool) :
    (s.noteSat b).cfg = s.cfg := rfl
@[simp] theorem State.noteSat_script (s : State) (b : Bool) :
    (s.noteSat b).script = s.script := rfl
@[simp] theorem State.noteSat_response (s : State) (b : Bool) :
    (s.noteSat b).response = s.response := rfl

/-! ### raiseFault -/

@[simp] theorem State.raiseFault_sat (s : State) (code : FaultCode) (w : Word) :
    (s.raiseFault code w).sat = s.sat := rfl
@[simp] theorem State.raiseFault_errCode (s : State) (code : FaultCode) (w : Word) :
    (s.raiseFault code w).errCode = faultCode code := rfl
@[simp] theorem State.raiseFault_errCmd (s : State) (code : FaultCode) (w : Word) :
    (s.raiseFault code w).errCmd = w := rfl
@[simp] theorem State.raiseFault_cmdCnt (s : State) (code : FaultCode) (w : Word) :
    (s.raiseFault code w).cmdCnt = s.cmdCnt := rfl
@[simp] theorem State.raiseFault_srcH (s : State) (code : FaultCode) (w : Word) :
    (s.raiseFault code w).srcH = s.srcH := rfl
@[simp] theorem State.raiseFault_srcW (s : State) (code : FaultCode) (w : Word) :
    (s.raiseFault code w).srcW = s.srcW := rfl
@[simp] theorem State.raiseFault_dstH (s : State) (code : FaultCode) (w : Word) :
    (s.raiseFault code w).dstH = s.dstH := rfl
@[simp] theorem State.raiseFault_dstW (s : State) (code : FaultCode) (w : Word) :
    (s.raiseFault code w).dstW = s.dstW := rfl
@[simp] theorem State.raiseFault_plH (s : State) (code : FaultCode) (w : Word) :
    (s.raiseFault code w).plH = s.plH := rfl
@[simp] theorem State.raiseFault_plW (s : State) (code : FaultCode) (w : Word) :
    (s.raiseFault code w).plW = s.plW := rfl
@[simp] theorem State.raiseFault_field (s : State) (code : FaultCode) (w : Word) :
    (s.raiseFault code w).field = s.field := rfl
@[simp] theorem State.raiseFault_fieldNo (s : State) (code : FaultCode) (w : Word) :
    (s.raiseFault code w).fieldNo = s.fieldNo := rfl
@[simp] theorem State.raiseFault_phaseMode (s : State) (code : FaultCode) (w : Word) :
    (s.raiseFault code w).phaseMode = s.phaseMode := rfl
@[simp] theorem State.raiseFault_phaseOffset (s : State) (code : FaultCode) (w : Word) :
    (s.raiseFault code w).phaseOffset = s.phaseOffset := rfl
@[simp] theorem State.raiseFault_scAmpl (s : State) (code : FaultCode) (w : Word) :
    (s.raiseFault code w).scAmpl = s.scAmpl := rfl
@[simp] theorem State.raiseFault_fltAlpha (s : State) (code : FaultCode) (w : Word) :
    (s.raiseFault code w).fltAlpha = s.fltAlpha := rfl
@[simp] theorem State.raiseFault_fltReset (s : State) (code : FaultCode) (w : Word) :
    (s.raiseFault code w).fltReset = s.fltReset := rfl
@[simp] theorem State.raiseFault_preAmt (s : State) (code : FaultCode) (w : Word) :
    (s.raiseFault code w).preAmt = s.preAmt := rfl
@[simp] theorem State.raiseFault_lnoiseAmp (s : State) (code : FaultCode) (w : Word) :
    (s.raiseFault code w).lnoiseAmp = s.lnoiseAmp := rfl
@[simp] theorem State.raiseFault_cnoiseAmp (s : State) (code : FaultCode) (w : Word) :
    (s.raiseFault code w).cnoiseAmp = s.cnoiseAmp := rfl
@[simp] theorem State.raiseFault_pnoiseAmp (s : State) (code : FaultCode) (w : Word) :
    (s.raiseFault code w).pnoiseAmp = s.pnoiseAmp := rfl
@[simp] theorem State.raiseFault_chromaLoss (s : State) (code : FaultCode) (w : Word) :
    (s.raiseFault code w).chromaLoss = s.chromaLoss := rfl
@[simp] theorem State.raiseFault_prngState (s : State) (code : FaultCode) (w : Word) :
    (s.raiseFault code w).prngState = s.prngState := rfl
@[simp] theorem State.raiseFault_src (s : State) (code : FaultCode) (w : Word) :
    (s.raiseFault code w).src = s.src := rfl
@[simp] theorem State.raiseFault_dst (s : State) (code : FaultCode) (w : Word) :
    (s.raiseFault code w).dst = s.dst := rfl
@[simp] theorem State.raiseFault_planeY (s : State) (code : FaultCode) (w : Word) :
    (s.raiseFault code w).planeY = s.planeY := rfl
@[simp] theorem State.raiseFault_planeI (s : State) (code : FaultCode) (w : Word) :
    (s.raiseFault code w).planeI = s.planeI := rfl
@[simp] theorem State.raiseFault_planeQ (s : State) (code : FaultCode) (w : Word) :
    (s.raiseFault code w).planeQ = s.planeQ := rfl
@[simp] theorem State.raiseFault_cfg (s : State) (code : FaultCode) (w : Word) :
    (s.raiseFault code w).cfg = s.cfg := rfl
@[simp] theorem State.raiseFault_script (s : State) (code : FaultCode) (w : Word) :
    (s.raiseFault code w).script = s.script := rfl
@[simp] theorem State.raiseFault_response (s : State) (code : FaultCode) (w : Word) :
    (s.raiseFault code w).response = s.response := rfl

/-! ### ackFault -/

@[simp] theorem State.ackFault_sat (s : State) :
    (s.ackFault).sat = s.sat := rfl
@[simp] theorem State.ackFault_errCode (s : State) :
    (s.ackFault).errCode = 0#8 := rfl
@[simp] theorem State.ackFault_errCmd (s : State) :
    (s.ackFault).errCmd = 0#32 := rfl
@[simp] theorem State.ackFault_cmdCnt (s : State) :
    (s.ackFault).cmdCnt = s.cmdCnt := rfl
@[simp] theorem State.ackFault_srcH (s : State) :
    (s.ackFault).srcH = s.srcH := rfl
@[simp] theorem State.ackFault_srcW (s : State) :
    (s.ackFault).srcW = s.srcW := rfl
@[simp] theorem State.ackFault_dstH (s : State) :
    (s.ackFault).dstH = s.dstH := rfl
@[simp] theorem State.ackFault_dstW (s : State) :
    (s.ackFault).dstW = s.dstW := rfl
@[simp] theorem State.ackFault_plH (s : State) :
    (s.ackFault).plH = s.plH := rfl
@[simp] theorem State.ackFault_plW (s : State) :
    (s.ackFault).plW = s.plW := rfl
@[simp] theorem State.ackFault_field (s : State) :
    (s.ackFault).field = s.field := rfl
@[simp] theorem State.ackFault_fieldNo (s : State) :
    (s.ackFault).fieldNo = s.fieldNo := rfl
@[simp] theorem State.ackFault_phaseMode (s : State) :
    (s.ackFault).phaseMode = s.phaseMode := rfl
@[simp] theorem State.ackFault_phaseOffset (s : State) :
    (s.ackFault).phaseOffset = s.phaseOffset := rfl
@[simp] theorem State.ackFault_scAmpl (s : State) :
    (s.ackFault).scAmpl = s.scAmpl := rfl
@[simp] theorem State.ackFault_fltAlpha (s : State) :
    (s.ackFault).fltAlpha = s.fltAlpha := rfl
@[simp] theorem State.ackFault_fltReset (s : State) :
    (s.ackFault).fltReset = s.fltReset := rfl
@[simp] theorem State.ackFault_preAmt (s : State) :
    (s.ackFault).preAmt = s.preAmt := rfl
@[simp] theorem State.ackFault_lnoiseAmp (s : State) :
    (s.ackFault).lnoiseAmp = s.lnoiseAmp := rfl
@[simp] theorem State.ackFault_cnoiseAmp (s : State) :
    (s.ackFault).cnoiseAmp = s.cnoiseAmp := rfl
@[simp] theorem State.ackFault_pnoiseAmp (s : State) :
    (s.ackFault).pnoiseAmp = s.pnoiseAmp := rfl
@[simp] theorem State.ackFault_chromaLoss (s : State) :
    (s.ackFault).chromaLoss = s.chromaLoss := rfl
@[simp] theorem State.ackFault_prngState (s : State) :
    (s.ackFault).prngState = s.prngState := rfl
@[simp] theorem State.ackFault_src (s : State) :
    (s.ackFault).src = s.src := rfl
@[simp] theorem State.ackFault_dst (s : State) :
    (s.ackFault).dst = s.dst := rfl
@[simp] theorem State.ackFault_planeY (s : State) :
    (s.ackFault).planeY = s.planeY := rfl
@[simp] theorem State.ackFault_planeI (s : State) :
    (s.ackFault).planeI = s.planeI := rfl
@[simp] theorem State.ackFault_planeQ (s : State) :
    (s.ackFault).planeQ = s.planeQ := rfl
@[simp] theorem State.ackFault_cfg (s : State) :
    (s.ackFault).cfg = s.cfg := rfl
@[simp] theorem State.ackFault_script (s : State) :
    (s.ackFault).script = s.script := rfl
@[simp] theorem State.ackFault_response (s : State) :
    (s.ackFault).response = s.response := rfl

/-! ### complete -/

@[simp] theorem State.complete_sat (s : State) :
    (s.complete).sat = s.sat := rfl
@[simp] theorem State.complete_errCode (s : State) :
    (s.complete).errCode = s.errCode := rfl
@[simp] theorem State.complete_errCmd (s : State) :
    (s.complete).errCmd = s.errCmd := rfl
@[simp] theorem State.complete_cmdCnt (s : State) :
    (s.complete).cmdCnt = s.cmdCnt + 1#32 := rfl
@[simp] theorem State.complete_srcH (s : State) :
    (s.complete).srcH = s.srcH := rfl
@[simp] theorem State.complete_srcW (s : State) :
    (s.complete).srcW = s.srcW := rfl
@[simp] theorem State.complete_dstH (s : State) :
    (s.complete).dstH = s.dstH := rfl
@[simp] theorem State.complete_dstW (s : State) :
    (s.complete).dstW = s.dstW := rfl
@[simp] theorem State.complete_plH (s : State) :
    (s.complete).plH = s.plH := rfl
@[simp] theorem State.complete_plW (s : State) :
    (s.complete).plW = s.plW := rfl
@[simp] theorem State.complete_field (s : State) :
    (s.complete).field = s.field := rfl
@[simp] theorem State.complete_fieldNo (s : State) :
    (s.complete).fieldNo = s.fieldNo := rfl
@[simp] theorem State.complete_phaseMode (s : State) :
    (s.complete).phaseMode = s.phaseMode := rfl
@[simp] theorem State.complete_phaseOffset (s : State) :
    (s.complete).phaseOffset = s.phaseOffset := rfl
@[simp] theorem State.complete_scAmpl (s : State) :
    (s.complete).scAmpl = s.scAmpl := rfl
@[simp] theorem State.complete_fltAlpha (s : State) :
    (s.complete).fltAlpha = s.fltAlpha := rfl
@[simp] theorem State.complete_fltReset (s : State) :
    (s.complete).fltReset = s.fltReset := rfl
@[simp] theorem State.complete_preAmt (s : State) :
    (s.complete).preAmt = s.preAmt := rfl
@[simp] theorem State.complete_lnoiseAmp (s : State) :
    (s.complete).lnoiseAmp = s.lnoiseAmp := rfl
@[simp] theorem State.complete_cnoiseAmp (s : State) :
    (s.complete).cnoiseAmp = s.cnoiseAmp := rfl
@[simp] theorem State.complete_pnoiseAmp (s : State) :
    (s.complete).pnoiseAmp = s.pnoiseAmp := rfl
@[simp] theorem State.complete_chromaLoss (s : State) :
    (s.complete).chromaLoss = s.chromaLoss := rfl
@[simp] theorem State.complete_prngState (s : State) :
    (s.complete).prngState = s.prngState := rfl
@[simp] theorem State.complete_src (s : State) :
    (s.complete).src = s.src := rfl
@[simp] theorem State.complete_dst (s : State) :
    (s.complete).dst = s.dst := rfl
@[simp] theorem State.complete_planeY (s : State) :
    (s.complete).planeY = s.planeY := rfl
@[simp] theorem State.complete_planeI (s : State) :
    (s.complete).planeI = s.planeI := rfl
@[simp] theorem State.complete_planeQ (s : State) :
    (s.complete).planeQ = s.planeQ := rfl
@[simp] theorem State.complete_cfg (s : State) :
    (s.complete).cfg = s.cfg := rfl
@[simp] theorem State.complete_script (s : State) :
    (s.complete).script = s.script := rfl
@[simp] theorem State.complete_response (s : State) :
    (s.complete).response = s.response := rfl

/-! ### setPrng -/

@[simp] theorem State.setPrng_sat (s : State) (st : Word) :
    (s.setPrng st).sat = s.sat := rfl
@[simp] theorem State.setPrng_errCode (s : State) (st : Word) :
    (s.setPrng st).errCode = s.errCode := rfl
@[simp] theorem State.setPrng_errCmd (s : State) (st : Word) :
    (s.setPrng st).errCmd = s.errCmd := rfl
@[simp] theorem State.setPrng_cmdCnt (s : State) (st : Word) :
    (s.setPrng st).cmdCnt = s.cmdCnt := rfl
@[simp] theorem State.setPrng_srcH (s : State) (st : Word) :
    (s.setPrng st).srcH = s.srcH := rfl
@[simp] theorem State.setPrng_srcW (s : State) (st : Word) :
    (s.setPrng st).srcW = s.srcW := rfl
@[simp] theorem State.setPrng_dstH (s : State) (st : Word) :
    (s.setPrng st).dstH = s.dstH := rfl
@[simp] theorem State.setPrng_dstW (s : State) (st : Word) :
    (s.setPrng st).dstW = s.dstW := rfl
@[simp] theorem State.setPrng_plH (s : State) (st : Word) :
    (s.setPrng st).plH = s.plH := rfl
@[simp] theorem State.setPrng_plW (s : State) (st : Word) :
    (s.setPrng st).plW = s.plW := rfl
@[simp] theorem State.setPrng_field (s : State) (st : Word) :
    (s.setPrng st).field = s.field := rfl
@[simp] theorem State.setPrng_fieldNo (s : State) (st : Word) :
    (s.setPrng st).fieldNo = s.fieldNo := rfl
@[simp] theorem State.setPrng_phaseMode (s : State) (st : Word) :
    (s.setPrng st).phaseMode = s.phaseMode := rfl
@[simp] theorem State.setPrng_phaseOffset (s : State) (st : Word) :
    (s.setPrng st).phaseOffset = s.phaseOffset := rfl
@[simp] theorem State.setPrng_scAmpl (s : State) (st : Word) :
    (s.setPrng st).scAmpl = s.scAmpl := rfl
@[simp] theorem State.setPrng_fltAlpha (s : State) (st : Word) :
    (s.setPrng st).fltAlpha = s.fltAlpha := rfl
@[simp] theorem State.setPrng_fltReset (s : State) (st : Word) :
    (s.setPrng st).fltReset = s.fltReset := rfl
@[simp] theorem State.setPrng_preAmt (s : State) (st : Word) :
    (s.setPrng st).preAmt = s.preAmt := rfl
@[simp] theorem State.setPrng_lnoiseAmp (s : State) (st : Word) :
    (s.setPrng st).lnoiseAmp = s.lnoiseAmp := rfl
@[simp] theorem State.setPrng_cnoiseAmp (s : State) (st : Word) :
    (s.setPrng st).cnoiseAmp = s.cnoiseAmp := rfl
@[simp] theorem State.setPrng_pnoiseAmp (s : State) (st : Word) :
    (s.setPrng st).pnoiseAmp = s.pnoiseAmp := rfl
@[simp] theorem State.setPrng_chromaLoss (s : State) (st : Word) :
    (s.setPrng st).chromaLoss = s.chromaLoss := rfl
@[simp] theorem State.setPrng_prngState (s : State) (st : Word) :
    (s.setPrng st).prngState = st := rfl
@[simp] theorem State.setPrng_src (s : State) (st : Word) :
    (s.setPrng st).src = s.src := rfl
@[simp] theorem State.setPrng_dst (s : State) (st : Word) :
    (s.setPrng st).dst = s.dst := rfl
@[simp] theorem State.setPrng_planeY (s : State) (st : Word) :
    (s.setPrng st).planeY = s.planeY := rfl
@[simp] theorem State.setPrng_planeI (s : State) (st : Word) :
    (s.setPrng st).planeI = s.planeI := rfl
@[simp] theorem State.setPrng_planeQ (s : State) (st : Word) :
    (s.setPrng st).planeQ = s.planeQ := rfl
@[simp] theorem State.setPrng_cfg (s : State) (st : Word) :
    (s.setPrng st).cfg = s.cfg := rfl
@[simp] theorem State.setPrng_script (s : State) (st : Word) :
    (s.setPrng st).script = s.script := rfl
@[simp] theorem State.setPrng_response (s : State) (st : Word) :
    (s.setPrng st).response = s.response := rfl

/-! ### takeSrcShape -/

@[simp] theorem State.takeSrcShape_sat (s : State) :
    (s.takeSrcShape).sat = s.sat := rfl
@[simp] theorem State.takeSrcShape_errCode (s : State) :
    (s.takeSrcShape).errCode = s.errCode := rfl
@[simp] theorem State.takeSrcShape_errCmd (s : State) :
    (s.takeSrcShape).errCmd = s.errCmd := rfl
@[simp] theorem State.takeSrcShape_cmdCnt (s : State) :
    (s.takeSrcShape).cmdCnt = s.cmdCnt := rfl
@[simp] theorem State.takeSrcShape_srcH (s : State) :
    (s.takeSrcShape).srcH = s.srcH := rfl
@[simp] theorem State.takeSrcShape_srcW (s : State) :
    (s.takeSrcShape).srcW = s.srcW := rfl
@[simp] theorem State.takeSrcShape_dstH (s : State) :
    (s.takeSrcShape).dstH = s.dstH := rfl
@[simp] theorem State.takeSrcShape_dstW (s : State) :
    (s.takeSrcShape).dstW = s.dstW := rfl
@[simp] theorem State.takeSrcShape_plH (s : State) :
    (s.takeSrcShape).plH = s.srcH := rfl
@[simp] theorem State.takeSrcShape_plW (s : State) :
    (s.takeSrcShape).plW = s.srcW := rfl
@[simp] theorem State.takeSrcShape_field (s : State) :
    (s.takeSrcShape).field = s.field := rfl
@[simp] theorem State.takeSrcShape_fieldNo (s : State) :
    (s.takeSrcShape).fieldNo = s.fieldNo := rfl
@[simp] theorem State.takeSrcShape_phaseMode (s : State) :
    (s.takeSrcShape).phaseMode = s.phaseMode := rfl
@[simp] theorem State.takeSrcShape_phaseOffset (s : State) :
    (s.takeSrcShape).phaseOffset = s.phaseOffset := rfl
@[simp] theorem State.takeSrcShape_scAmpl (s : State) :
    (s.takeSrcShape).scAmpl = s.scAmpl := rfl
@[simp] theorem State.takeSrcShape_fltAlpha (s : State) :
    (s.takeSrcShape).fltAlpha = s.fltAlpha := rfl
@[simp] theorem State.takeSrcShape_fltReset (s : State) :
    (s.takeSrcShape).fltReset = s.fltReset := rfl
@[simp] theorem State.takeSrcShape_preAmt (s : State) :
    (s.takeSrcShape).preAmt = s.preAmt := rfl
@[simp] theorem State.takeSrcShape_lnoiseAmp (s : State) :
    (s.takeSrcShape).lnoiseAmp = s.lnoiseAmp := rfl
@[simp] theorem State.takeSrcShape_cnoiseAmp (s : State) :
    (s.takeSrcShape).cnoiseAmp = s.cnoiseAmp := rfl
@[simp] theorem State.takeSrcShape_pnoiseAmp (s : State) :
    (s.takeSrcShape).pnoiseAmp = s.pnoiseAmp := rfl
@[simp] theorem State.takeSrcShape_chromaLoss (s : State) :
    (s.takeSrcShape).chromaLoss = s.chromaLoss := rfl
@[simp] theorem State.takeSrcShape_prngState (s : State) :
    (s.takeSrcShape).prngState = s.prngState := rfl
@[simp] theorem State.takeSrcShape_src (s : State) :
    (s.takeSrcShape).src = s.src := rfl
@[simp] theorem State.takeSrcShape_dst (s : State) :
    (s.takeSrcShape).dst = s.dst := rfl
@[simp] theorem State.takeSrcShape_planeY (s : State) :
    (s.takeSrcShape).planeY = s.planeY := rfl
@[simp] theorem State.takeSrcShape_planeI (s : State) :
    (s.takeSrcShape).planeI = s.planeI := rfl
@[simp] theorem State.takeSrcShape_planeQ (s : State) :
    (s.takeSrcShape).planeQ = s.planeQ := rfl
@[simp] theorem State.takeSrcShape_cfg (s : State) :
    (s.takeSrcShape).cfg = s.cfg := rfl
@[simp] theorem State.takeSrcShape_script (s : State) :
    (s.takeSrcShape).script = s.script := rfl
@[simp] theorem State.takeSrcShape_response (s : State) :
    (s.takeSrcShape).response = s.response := rfl

/-! ### respond -/

@[simp] theorem State.respond_sat (s : State) (v : HostValue) :
    (s.respond v).sat = s.sat := rfl
@[simp] theorem State.respond_errCode (s : State) (v : HostValue) :
    (s.respond v).errCode = s.errCode := rfl
@[simp] theorem State.respond_errCmd (s : State) (v : HostValue) :
    (s.respond v).errCmd = s.errCmd := rfl
@[simp] theorem State.respond_cmdCnt (s : State) (v : HostValue) :
    (s.respond v).cmdCnt = s.cmdCnt := rfl
@[simp] theorem State.respond_srcH (s : State) (v : HostValue) :
    (s.respond v).srcH = s.srcH := rfl
@[simp] theorem State.respond_srcW (s : State) (v : HostValue) :
    (s.respond v).srcW = s.srcW := rfl
@[simp] theorem State.respond_dstH (s : State) (v : HostValue) :
    (s.respond v).dstH = s.dstH := rfl
@[simp] theorem State.respond_dstW (s : State) (v : HostValue) :
    (s.respond v).dstW = s.dstW := rfl
@[simp] theorem State.respond_plH (s : State) (v : HostValue) :
    (s.respond v).plH = s.plH := rfl
@[simp] theorem State.respond_plW (s : State) (v : HostValue) :
    (s.respond v).plW = s.plW := rfl
@[simp] theorem State.respond_field (s : State) (v : HostValue) :
    (s.respond v).field = s.field := rfl
@[simp] theorem State.respond_fieldNo (s : State) (v : HostValue) :
    (s.respond v).fieldNo = s.fieldNo := rfl
@[simp] theorem State.respond_phaseMode (s : State) (v : HostValue) :
    (s.respond v).phaseMode = s.phaseMode := rfl
@[simp] theorem State.respond_phaseOffset (s : State) (v : HostValue) :
    (s.respond v).phaseOffset = s.phaseOffset := rfl
@[simp] theorem State.respond_scAmpl (s : State) (v : HostValue) :
    (s.respond v).scAmpl = s.scAmpl := rfl
@[simp] theorem State.respond_fltAlpha (s : State) (v : HostValue) :
    (s.respond v).fltAlpha = s.fltAlpha := rfl
@[simp] theorem State.respond_fltReset (s : State) (v : HostValue) :
    (s.respond v).fltReset = s.fltReset := rfl
@[simp] theorem State.respond_preAmt (s : State) (v : HostValue) :
    (s.respond v).preAmt = s.preAmt := rfl
@[simp] theorem State.respond_lnoiseAmp (s : State) (v : HostValue) :
    (s.respond v).lnoiseAmp = s.lnoiseAmp := rfl
@[simp] theorem State.respond_cnoiseAmp (s : State) (v : HostValue) :
    (s.respond v).cnoiseAmp = s.cnoiseAmp := rfl
@[simp] theorem State.respond_pnoiseAmp (s : State) (v : HostValue) :
    (s.respond v).pnoiseAmp = s.pnoiseAmp := rfl
@[simp] theorem State.respond_chromaLoss (s : State) (v : HostValue) :
    (s.respond v).chromaLoss = s.chromaLoss := rfl
@[simp] theorem State.respond_prngState (s : State) (v : HostValue) :
    (s.respond v).prngState = s.prngState := rfl
@[simp] theorem State.respond_src (s : State) (v : HostValue) :
    (s.respond v).src = s.src := rfl
@[simp] theorem State.respond_dst (s : State) (v : HostValue) :
    (s.respond v).dst = s.dst := rfl
@[simp] theorem State.respond_planeY (s : State) (v : HostValue) :
    (s.respond v).planeY = s.planeY := rfl
@[simp] theorem State.respond_planeI (s : State) (v : HostValue) :
    (s.respond v).planeI = s.planeI := rfl
@[simp] theorem State.respond_planeQ (s : State) (v : HostValue) :
    (s.respond v).planeQ = s.planeQ := rfl
@[simp] theorem State.respond_cfg (s : State) (v : HostValue) :
    (s.respond v).cfg = s.cfg := rfl
@[simp] theorem State.respond_script (s : State) (v : HostValue) :
    (s.respond v).script = s.script := rfl
@[simp] theorem State.respond_response (s : State) (v : HostValue) :
    (s.respond v).response = some v := rfl

/-! ### setPlane -/

@[simp] theorem State.setPlane_sat (s : State) (p : Plane) (m : Memory 32) :
    (s.setPlane p m).sat = s.sat := by cases p <;> rfl
@[simp] theorem State.setPlane_errCode (s : State) (p : Plane) (m : Memory 32) :
    (s.setPlane p m).errCode = s.errCode := by cases p <;> rfl
@[simp] theorem State.setPlane_errCmd (s : State) (p : Plane) (m : Memory 32) :
    (s.setPlane p m).errCmd = s.errCmd := by cases p <;> rfl
@[simp] theorem State.setPlane_cmdCnt (s : State) (p : Plane) (m : Memory 32) :
    (s.setPlane p m).cmdCnt = s.cmdCnt := by cases p <;> rfl
@[simp] theorem State.setPlane_srcH (s : State) (p : Plane) (m : Memory 32) :
    (s.setPlane p m).srcH = s.srcH := by cases p <;> rfl
@[simp] theorem State.setPlane_srcW (s : State) (p : Plane) (m : Memory 32) :
    (s.setPlane p m).srcW = s.srcW := by cases p <;> rfl
@[simp] theorem State.setPlane_dstH (s : State) (p : Plane) (m : Memory 32) :
    (s.setPlane p m).dstH = s.dstH := by cases p <;> rfl
@[simp] theorem State.setPlane_dstW (s : State) (p : Plane) (m : Memory 32) :
    (s.setPlane p m).dstW = s.dstW := by cases p <;> rfl
@[simp] theorem State.setPlane_plH (s : State) (p : Plane) (m : Memory 32) :
    (s.setPlane p m).plH = s.plH := by cases p <;> rfl
@[simp] theorem State.setPlane_plW (s : State) (p : Plane) (m : Memory 32) :
    (s.setPlane p m).plW = s.plW := by cases p <;> rfl
@[simp] theorem State.setPlane_field (s : State) (p : Plane) (m : Memory 32) :
    (s.setPlane p m).field = s.field := by cases p <;> rfl
@[simp] theorem State.setPlane_fieldNo (s : State) (p : Plane) (m : Memory 32) :
    (s.setPlane p m).fieldNo = s.fieldNo := by cases p <;> rfl
@[simp] theorem State.setPlane_phaseMode (s : State) (p : Plane) (m : Memory 32) :
    (s.setPlane p m).phaseMode = s.phaseMode := by cases p <;> rfl
@[simp] theorem State.setPlane_phaseOffset (s : State) (p : Plane) (m : Memory 32) :
    (s.setPlane p m).phaseOffset = s.phaseOffset := by cases p <;> rfl
@[simp] theorem State.setPlane_scAmpl (s : State) (p : Plane) (m : Memory 32) :
    (s.setPlane p m).scAmpl = s.scAmpl := by cases p <;> rfl
@[simp] theorem State.setPlane_fltAlpha (s : State) (p : Plane) (m : Memory 32) :
    (s.setPlane p m).fltAlpha = s.fltAlpha := by cases p <;> rfl
@[simp] theorem State.setPlane_fltReset (s : State) (p : Plane) (m : Memory 32) :
    (s.setPlane p m).fltReset = s.fltReset := by cases p <;> rfl
@[simp] theorem State.setPlane_preAmt (s : State) (p : Plane) (m : Memory 32) :
    (s.setPlane p m).preAmt = s.preAmt := by cases p <;> rfl
@[simp] theorem State.setPlane_lnoiseAmp (s : State) (p : Plane) (m : Memory 32) :
    (s.setPlane p m).lnoiseAmp = s.lnoiseAmp := by cases p <;> rfl
@[simp] theorem State.setPlane_cnoiseAmp (s : State) (p : Plane) (m : Memory 32) :
    (s.setPlane p m).cnoiseAmp = s.cnoiseAmp := by cases p <;> rfl
@[simp] theorem State.setPlane_pnoiseAmp (s : State) (p : Plane) (m : Memory 32) :
    (s.setPlane p m).pnoiseAmp = s.pnoiseAmp := by cases p <;> rfl
@[simp] theorem State.setPlane_chromaLoss (s : State) (p : Plane) (m : Memory 32) :
    (s.setPlane p m).chromaLoss = s.chromaLoss := by cases p <;> rfl
@[simp] theorem State.setPlane_prngState (s : State) (p : Plane) (m : Memory 32) :
    (s.setPlane p m).prngState = s.prngState := by cases p <;> rfl
@[simp] theorem State.setPlane_src (s : State) (p : Plane) (m : Memory 32) :
    (s.setPlane p m).src = s.src := by cases p <;> rfl
@[simp] theorem State.setPlane_dst (s : State) (p : Plane) (m : Memory 32) :
    (s.setPlane p m).dst = s.dst := by cases p <;> rfl
@[simp] theorem State.setPlane_cfg (s : State) (p : Plane) (m : Memory 32) :
    (s.setPlane p m).cfg = s.cfg := by cases p <;> rfl
@[simp] theorem State.setPlane_script (s : State) (p : Plane) (m : Memory 32) :
    (s.setPlane p m).script = s.script := by cases p <;> rfl
@[simp] theorem State.setPlane_response (s : State) (p : Plane) (m : Memory 32) :
    (s.setPlane p m).response = s.response := by cases p <;> rfl

/-! ### setFrame -/

@[simp] theorem State.setFrame_sat (s : State) (f : Frame) (m : Memory 8) :
    (s.setFrame f m).sat = s.sat := by cases f <;> rfl
@[simp] theorem State.setFrame_errCode (s : State) (f : Frame) (m : Memory 8) :
    (s.setFrame f m).errCode = s.errCode := by cases f <;> rfl
@[simp] theorem State.setFrame_errCmd (s : State) (f : Frame) (m : Memory 8) :
    (s.setFrame f m).errCmd = s.errCmd := by cases f <;> rfl
@[simp] theorem State.setFrame_cmdCnt (s : State) (f : Frame) (m : Memory 8) :
    (s.setFrame f m).cmdCnt = s.cmdCnt := by cases f <;> rfl
@[simp] theorem State.setFrame_srcH (s : State) (f : Frame) (m : Memory 8) :
    (s.setFrame f m).srcH = s.srcH := by cases f <;> rfl
@[simp] theorem State.setFrame_srcW (s : State) (f : Frame) (m : Memory 8) :
    (s.setFrame f m).srcW = s.srcW := by cases f <;> rfl
@[simp] theorem State.setFrame_dstH (s : State) (f : Frame) (m : Memory 8) :
    (s.setFrame f m).dstH = s.dstH := by cases f <;> rfl
@[simp] theorem State.setFrame_dstW (s : State) (f : Frame) (m : Memory 8) :
    (s.setFrame f m).dstW = s.dstW := by cases f <;> rfl
@[simp] theorem State.setFrame_plH (s : State) (f : Frame) (m : Memory 8) :
    (s.setFrame f m).plH = s.plH := by cases f <;> rfl
@[simp] theorem State.setFrame_plW (s : State) (f : Frame) (m : Memory 8) :
    (s.setFrame f m).plW = s.plW := by cases f <;> rfl
@[simp] theorem State.setFrame_field (s : State) (f : Frame) (m : Memory 8) :
    (s.setFrame f m).field = s.field := by cases f <;> rfl
@[simp] theorem State.setFrame_fieldNo (s : State) (f : Frame) (m : Memory 8) :
    (s.setFrame f m).fieldNo = s.fieldNo := by cases f <;> rfl
@[simp] theorem State.setFrame_phaseMode (s : State) (f : Frame) (m : Memory 8) :
    (s.setFrame f m).phaseMode = s.phaseMode := by cases f <;> rfl
@[simp] theorem State.setFrame_phaseOffset (s : State) (f : Frame) (m : Memory 8) :
    (s.setFrame f m).phaseOffset = s.phaseOffset := by cases f <;> rfl
@[simp] theorem State.setFrame_scAmpl (s : State) (f : Frame) (m : Memory 8) :
    (s.setFrame f m).scAmpl = s.scAmpl := by cases f <;> rfl
@[simp] theorem State.setFrame_fltAlpha (s : State) (f : Frame) (m : Memory 8) :
    (s.setFrame f m).fltAlpha = s.fltAlpha := by cases f <;> rfl
@[simp] theorem State.setFrame_fltReset (s : State) (f : Frame) (m : Memory 8) :
    (s.setFrame f m).fltReset = s.fltReset := by cases f <;> rfl
@[simp] theorem State.setFrame_preAmt (s : State) (f : Frame) (m : Memory 8) :
    (s.setFrame f m).preAmt = s.preAmt := by cases f <;> rfl
@[simp] theorem State.setFrame_lnoiseAmp (s : State) (f : Frame) (m : Memory 8) :
    (s.setFrame f m).lnoiseAmp = s.lnoiseAmp := by cases f <;> rfl
@[simp] theorem State.setFrame_cnoiseAmp (s : State) (f : Frame) (m : Memory 8) :
    (s.setFrame f m).cnoiseAmp = s.cnoiseAmp := by cases f <;> rfl
@[simp] theorem State.setFrame_pnoiseAmp (s : State) (f : Frame) (m : Memory 8) :
    (s.setFrame f m).pnoiseAmp = s.pnoiseAmp := by cases f <;> rfl
@[simp] theorem State.setFrame_chromaLoss (s : State) (f : Frame) (m : Memory 8) :
    (s.setFrame f m).chromaLoss = s.chromaLoss := by cases f <;> rfl
@[simp] theorem State.setFrame_prngState (s : State) (f : Frame) (m : Memory 8) :
    (s.setFrame f m).prngState = s.prngState := by cases f <;> rfl
@[simp] theorem State.setFrame_planeY (s : State) (f : Frame) (m : Memory 8) :
    (s.setFrame f m).planeY = s.planeY := by cases f <;> rfl
@[simp] theorem State.setFrame_planeI (s : State) (f : Frame) (m : Memory 8) :
    (s.setFrame f m).planeI = s.planeI := by cases f <;> rfl
@[simp] theorem State.setFrame_planeQ (s : State) (f : Frame) (m : Memory 8) :
    (s.setFrame f m).planeQ = s.planeQ := by cases f <;> rfl
@[simp] theorem State.setFrame_cfg (s : State) (f : Frame) (m : Memory 8) :
    (s.setFrame f m).cfg = s.cfg := by cases f <;> rfl
@[simp] theorem State.setFrame_script (s : State) (f : Frame) (m : Memory 8) :
    (s.setFrame f m).script = s.script := by cases f <;> rfl
@[simp] theorem State.setFrame_response (s : State) (f : Frame) (m : Memory 8) :
    (s.setFrame f m).response = s.response := by cases f <;> rfl

/-! ### Planes and frames through the updates -/

@[simp] theorem State.plane_setPlane_same (s : State) (p : Plane) (m : Memory 32) : (s.setPlane p m).plane p = m := by
  cases p <;> rfl
theorem State.plane_setPlane_other (s : State) (p p' : Plane) (m : Memory 32) (h : p' ≠ p) :
    (s.setPlane p m).plane p' = s.plane p' := by
  cases p <;> cases p' <;> first | rfl | exact absurd rfl h
@[simp] theorem State.frame_setFrame_same (s : State) (f : Frame) (m : Memory 8) : (s.setFrame f m).frame f = m := by
  cases f <;> rfl
theorem State.frame_setFrame_other (s : State) (f g : Frame) (m : Memory 8) (h : g ≠ f) :
    (s.setFrame f m).frame g = s.frame g := by
  cases f <;> cases g <;> first | rfl | exact absurd rfl h
@[simp] theorem State.plane_setFrame (s : State) (f : Frame) (m : Memory 8) (p : Plane) :
    (s.setFrame f m).plane p = s.plane p := by cases p <;> simp [State.plane]
@[simp] theorem State.frame_setPlane (s : State) (p : Plane) (m : Memory 32) (f : Frame) :
    (s.setPlane p m).frame f = s.frame f := by cases f <;> simp [State.frame]

@[simp] theorem State.plane_noteSat (s : State) (b : Bool) (p : Plane) : (s.noteSat b).plane p = s.plane p := rfl
@[simp] theorem State.frame_noteSat (s : State) (b : Bool) (f : Frame) : (s.noteSat b).frame f = s.frame f := rfl
@[simp] theorem State.plane_raiseFault (s : State) (code : FaultCode) (w : Word) (p : Plane) : (s.raiseFault code w).plane p = s.plane p := rfl
@[simp] theorem State.frame_raiseFault (s : State) (code : FaultCode) (w : Word) (f : Frame) : (s.raiseFault code w).frame f = s.frame f := rfl
@[simp] theorem State.plane_ackFault (s : State) (p : Plane) : (s.ackFault).plane p = s.plane p := rfl
@[simp] theorem State.frame_ackFault (s : State) (f : Frame) : (s.ackFault).frame f = s.frame f := rfl
@[simp] theorem State.plane_complete (s : State) (p : Plane) : (s.complete).plane p = s.plane p := rfl
@[simp] theorem State.frame_complete (s : State) (f : Frame) : (s.complete).frame f = s.frame f := rfl
@[simp] theorem State.plane_setPrng (s : State) (st : Word) (p : Plane) : (s.setPrng st).plane p = s.plane p := rfl
@[simp] theorem State.frame_setPrng (s : State) (st : Word) (f : Frame) : (s.setPrng st).frame f = s.frame f := rfl
@[simp] theorem State.plane_takeSrcShape (s : State) (p : Plane) : (s.takeSrcShape).plane p = s.plane p := rfl
@[simp] theorem State.frame_takeSrcShape (s : State) (f : Frame) : (s.takeSrcShape).frame f = s.frame f := rfl
@[simp] theorem State.plane_respond (s : State) (v : HostValue) (p : Plane) : (s.respond v).plane p = s.plane p := rfl
@[simp] theorem State.frame_respond (s : State) (v : HostValue) (f : Frame) : (s.respond v).frame f = s.frame f := rfl

@[simp] theorem State.setPlane_y_planeY (s : State) (m : Memory 32) : (s.setPlane .y m).planeY = m := rfl
@[simp] theorem State.setPlane_y_planeI (s : State) (m : Memory 32) : (s.setPlane .y m).planeI = s.planeI := rfl
@[simp] theorem State.setPlane_y_planeQ (s : State) (m : Memory 32) : (s.setPlane .y m).planeQ = s.planeQ := rfl
@[simp] theorem State.setPlane_i_planeY (s : State) (m : Memory 32) : (s.setPlane .i m).planeY = s.planeY := rfl
@[simp] theorem State.setPlane_i_planeI (s : State) (m : Memory 32) : (s.setPlane .i m).planeI = m := rfl
@[simp] theorem State.setPlane_i_planeQ (s : State) (m : Memory 32) : (s.setPlane .i m).planeQ = s.planeQ := rfl
@[simp] theorem State.setPlane_q_planeY (s : State) (m : Memory 32) : (s.setPlane .q m).planeY = s.planeY := rfl
@[simp] theorem State.setPlane_q_planeI (s : State) (m : Memory 32) : (s.setPlane .q m).planeI = s.planeI := rfl
@[simp] theorem State.setPlane_q_planeQ (s : State) (m : Memory 32) : (s.setPlane .q m).planeQ = m := rfl
@[simp] theorem State.setFrame_src_src (s : State) (m : Memory 8) : (s.setFrame .src m).src = m := rfl
@[simp] theorem State.setFrame_src_dst (s : State) (m : Memory 8) : (s.setFrame .src m).dst = s.dst := rfl
@[simp] theorem State.setFrame_dst_src (s : State) (m : Memory 8) : (s.setFrame .dst m).src = s.src := rfl
@[simp] theorem State.setFrame_dst_dst (s : State) (m : Memory 8) : (s.setFrame .dst m).dst = m := rfl
@[simp] theorem State.plane_y (s : State) : s.plane .y = s.planeY := rfl
@[simp] theorem State.plane_i (s : State) : s.plane .i = s.planeI := rfl
@[simp] theorem State.plane_q (s : State) : s.plane .q = s.planeQ := rfl
@[simp] theorem State.frame_src (s : State) : s.frame .src = s.src := rfl
@[simp] theorem State.frame_dst (s : State) : s.frame .dst = s.dst := rfl

end Sys2Proof.Machine
end

