-- ==== Sys2Proof/Laws/Ops.lean ====
section
/-! SUPPORT. One lemma per shared operation that says what it can do: reading and writing rows, doing something for
each row, and the order of evaluation of a command. -/

namespace Sys2Proof.Machine

/-! ### Rows and masks -/

@[simp] theorem mem_fieldRows {f h y : Nat} : y ∈ fieldRows f h ↔ y < h ∧ y % 2 = f := by
  simp [fieldRows]

theorem State.mem_rows {s : State} {y : Nat} : y ∈ s.rows ↔ y < s.plH.toNat ∧ y % 2 = s.field.toNat := mem_fieldRows

theorem mem_maskPlanes {pm : BitVec 3} {p : Plane} : p ∈ maskPlanes pm ↔ planeSelected pm p = true := by
  cases p <;> simp [maskPlanes]

theorem State.xi_lt (s : State) (y : Nat) : s.xi y < 4 := by
  unfold State.xi
  dsimp only
  split
  · exact Nat.mod_lt _ (by decide)
  · exact Nat.mod_lt _ (by decide)
  · exact Nat.mod_lt _ (by decide)
  · exact fmod_lt _ (by decide)

/-- Two samples of a plane have the same index only if they are the same sample. -/
theorem planeIndex_inj {s : State} {r r' c c' : Nat} (hc : c < s.plW.toNat) (hc' : c' < s.plW.toNat)
    (h : s.planeIndex r c = s.planeIndex r' c') : r = r' ∧ c = c' := by
  unfold State.planeIndex at h
  have hr : r = r' := by
    have h1 : (r * s.plW.toNat + c) / s.plW.toNat = r := by
      rw [Nat.mul_comm, Nat.mul_add_div (by omega), Nat.div_eq_of_lt hc, Nat.add_zero]
    have h2 : (r' * s.plW.toNat + c') / s.plW.toNat = r' := by
      rw [Nat.mul_comm, Nat.mul_add_div (by omega), Nat.div_eq_of_lt hc', Nat.add_zero]
    rw [← h1, h, h2]
  subst hr
  exact ⟨rfl, by omega⟩

/-! ### Reading a row -/

/-- What reading a row can answer: the row, all of it written. -/
theorem State.readRow_ok {s : State} {p : Plane} {r : Nat} {xs : List Int} (h : s.readRow p r = .ok xs) :
    xs = s.rowOf p r ∧ s.rowReadable p r = true := by
  unfold State.readRow at h
  split at h
  · cases h
  · rename_i vs hvs
    simp only [Except.ok.injEq] at h
    obtain ⟨hl, hg⟩ := memGetRun_ok hvs
    have hs : ∀ c < s.plW.toNat, s.sampleAt p r c = (vs[c]?).map BitVec.toInt := by
      intro c hc
      have := hg c hc
      simp only [State.planeIndex, Nat.add_zero] at this
      simp only [State.sampleAt, State.planeIndex, this]
    refine ⟨?_, ?_⟩
    · rw [← h]
      refine List.ext_getElem (by simp [State.rowOf, hl]) (fun c h1 h2 => ?_)
      have hc : c < vs.length := by simpa using h1
      simp [State.rowOf, State.val, hs c (by omega), hc]
    · simp only [State.rowReadable, List.all_eq_true, List.mem_range]
      intro c hc
      rw [hs c hc, List.getElem?_eq_getElem (by omega)]
      rfl

/-- A written row is read. -/
theorem State.readRow_of_readable {s : State} {p : Plane} {r : Nat} (h : s.rowReadable p r = true) :
    s.readRow p r = .ok (s.rowOf p r) := by
  simp only [State.rowReadable, List.all_eq_true, List.mem_range, State.sampleAt, Option.isSome_map] at h
  obtain ⟨vs, hvs⟩ := memGetRun_of_written (m := s.plane p) (Fault.unwrittenSample p) (a := s.planeIndex r 0)
    (n := s.plW.toNat) (fun j hj => by
      have := h j hj
      rwa [show s.planeIndex r 0 + j = s.planeIndex r j by unfold State.planeIndex; omega])
  have hrow : s.readRow p r = .ok (vs.map BitVec.toInt) := by unfold State.readRow; rw [hvs]
  rw [hrow, (State.readRow_ok hrow).1]

@[simp] theorem State.rowOf_length (s : State) (p : Plane) (r : Nat) : (s.rowOf p r).length = s.plW.toNat := by
  simp [State.rowOf]

/-! ### Writing a row -/

/-- What a plane holds after a row of it is written. -/
theorem State.memGet_writeRow (s : State) (p : Plane) (r : Nat) (vs : List Int) (k : Nat) :
    memGet ((s.writeRow p r vs).plane p) k =
      if s.planeIndex r 0 ≤ k ∧ k < s.planeIndex r 0 + vs.length
      then (vs[k - s.planeIndex r 0]?).map (BitVec.ofInt 32) else memGet (s.plane p) k := by
  simp [State.writeRow, memGet_memSetRun]

/-- Writing a row of one plane leaves the others alone. -/
theorem State.plane_writeRow_other (s : State) (p p' : Plane) (r : Nat) (vs : List Int) (h : p' ≠ p) :
    (s.writeRow p r vs).plane p' = s.plane p' := State.plane_setPlane_other s p p' _ h

theorem State.plane_writeRowSat (s : State) (p p' : Plane) (r : Nat) (vs : List Int) :
    (s.writeRowSat p r vs).plane p' = (s.writeRow p r (vs.map sat32)).plane p' := rfl

/-- Writing a row keeps the canonical form of every plane. -/
theorem State.memWf_writeRow {s : State} (p : Plane) (r : Nat) (vs : List Int)
    (h : ∀ p', memWf (s.plane p') = true) (p' : Plane) : memWf ((s.writeRow p r vs).plane p') = true := by
  by_cases hp : p' = p
  · subst hp
    simpa [State.writeRow] using memWf_memSetRun _ _ (h p')
  · rw [State.plane_writeRow_other s p p' r vs hp]
    exact h p'

/-- Writing a row inside the memory keeps every index inside it. -/
theorem State.memBelow_writeRow {s : State} {size : Nat} (p : Plane) (r : Nat) (vs : List Int)
    (hv : s.planeIndex r 0 + vs.length ≤ size) (h : ∀ p', memBelow size (s.plane p') = true) (p' : Plane) :
    memBelow size ((s.writeRow p r vs).plane p') = true := by
  by_cases hp : p' = p
  · subst hp
    simpa [State.writeRow] using memBelow_memSetRun _ (by simpa using hv) (h p')
  · rw [State.plane_writeRow_other s p p' r vs hp]
    exact h p'

/-- Writing pixels keeps the canonical form of `DST`. -/
theorem State.memWf_writePixels {s : State} (r : Nat) (ps : List (Int × Int × Int)) (h : memWf s.dst = true) :
    memWf (s.writePixels r ps).dst = true := by
  simpa [State.writePixels] using memWf_memSetRun _ _ h

/-! ### For each row -/

/-- A property that every single step keeps is kept by doing it for each element. -/
theorem forEach_keeps {α σ : Type} {f : α → σ → Except Fault σ} {P : σ → Prop} {xs : List α} {st st' : σ}
    (hstep : ∀ x ∈ xs, ∀ u u', P u → f x u = .ok u' → P u') (h : forEach f xs st = .ok st') (h0 : P st) : P st' := by
  induction xs generalizing st with
  | nil =>
    simp only [forEach, Except.ok.injEq] at h
    exact h ▸ h0
  | cons x xs ih =>
    simp only [forEach] at h
    split at h
    · cases h
    · rename_i u hu
      exact ih (fun y hy => hstep y (List.mem_cons_of_mem _ hy)) h (hstep x List.mem_cons_self st u h0 hu)

/-- Where a property lets every single step answer and is kept, doing it for each element answers. -/
theorem forEach_answers {α σ : Type} {f : α → σ → Except Fault σ} {P : σ → Prop} {xs : List α} {st : σ}
    (hstep : ∀ x ∈ xs, ∀ u, P u → ∃ u', f x u = .ok u' ∧ P u') (h0 : P st) :
    ∃ st', forEach f xs st = .ok st' ∧ P st' := by
  induction xs generalizing st with
  | nil => exact ⟨st, rfl, h0⟩
  | cons x xs ih =>
    obtain ⟨u, hu, hp⟩ := hstep x List.mem_cons_self st h0
    obtain ⟨st', hst', hp'⟩ := ih (fun y hy => hstep y (List.mem_cons_of_mem _ hy)) hp
    exact ⟨st', by simp [forEach, hu, hst'], hp'⟩

/-! ### One command (44_system.md R190) -/

theorem runCommand_latched {i : Instr} {check : Option FaultCode} {noop : Bool} {effect : State → Except Fault State}
    {s : State} (h : s.errCode ≠ 0#8) : runCommand i check noop effect s = .next s := by
  simp [runCommand, h]

theorem runCommand_fault {i : Instr} {code : FaultCode} {noop : Bool} {effect : State → Except Fault State}
    {s : State} (h : s.errCode = 0#8) :
    runCommand i (some code) noop effect s = .next (s.raiseFault code (encode i)) := by
  simp [runCommand, h]

theorem runCommand_noop {i : Instr} {effect : State → Except Fault State} {s : State} (h : s.errCode = 0#8) :
    runCommand i none true effect s = .next s.complete := by
  simp [runCommand, h]

theorem runCommand_effect {i : Instr} {effect : State → Except Fault State} {s t : State} (h : s.errCode = 0#8)
    (he : effect s = .ok t) : runCommand i none false effect s = .next t.complete := by
  simp [runCommand, h, he]

/-- Everything a command can do when it answers a next state: it was discarded, it faulted, it was a no-op, or it had
its effect. -/
theorem runCommand_cases {i : Instr} {check : Option FaultCode} {noop : Bool} {effect : State → Except Fault State}
    {s t : State} (h : runCommand i check noop effect s = .next t) :
    (s.errCode ≠ 0#8 ∧ t = s) ∨
    (s.errCode = 0#8 ∧ ∃ code, check = some code ∧ t = s.raiseFault code (encode i)) ∨
    (s.errCode = 0#8 ∧ check = none ∧ noop = true ∧ t = s.complete) ∨
    (s.errCode = 0#8 ∧ check = none ∧ noop = false ∧ ∃ u, effect s = .ok u ∧ t = u.complete) := by
  unfold runCommand at h
  split at h
  · rename_i hl
    simp only [Host.Outcome.next.injEq] at h
    exact .inl ⟨hl, h.symm⟩
  · rename_i hl
    have hl : s.errCode = 0#8 := by simpa using hl
    split at h
    · rename_i code
      simp only [Host.Outcome.next.injEq] at h
      exact .inr (.inl ⟨hl, code, rfl, h.symm⟩)
    · split at h
      · rename_i hn
        simp only [Host.Outcome.next.injEq] at h
        exact .inr (.inr (.inl ⟨hl, rfl, hn, h.symm⟩))
      · rename_i hn
        split at h
        · rename_i u hu
          simp only [Host.Outcome.next.injEq] at h
          exact .inr (.inr (.inr ⟨hl, rfl, by simpa using hn, u, hu, h.symm⟩))
        · cases h

/-- No command is refused: it answers a next state or stops at a sample or byte that nothing has written. -/
theorem runCommand_not_refused {i : Instr} {check : Option FaultCode} {noop : Bool}
    {effect : State → Except Fault State} {s : State} {e : Refusal} :
    runCommand i check noop effect s ≠ .refused e := by
  unfold runCommand
  split
  · simp
  · split
    · simp
    · split
      · simp
      · split <;> simp

/-! ### Reset -/

theorem reset_memories_canonical : memWf State.reset.src = true ∧ memWf State.reset.dst = true ∧
    ∀ p, memWf (State.reset.plane p) = true := ⟨rfl, rfl, fun p => by cases p <;> rfl⟩

end Sys2Proof.Machine
end

