-- ==== Sys2Proof/Laws/PerInstr.lean ====
section
/-! SUPPORT. Facts about each instruction as syntax: it is well-formed, its word is legal, and its word carries its
operation code (30_encoding.md R80, R81, R84). -/

namespace Sys2Proof.Laws

/-- The operation code of a command (30_encoding.md R81). -/
def opOf : Instr → Nat
  | .nop => 0x00
  | .toyiq => 0x01
  | .fromyiq => 0x02
  | .lpf _ => 0x10
  | .hpf _ => 0x11
  | .lpf3 _ => 0x12
  | .preemph => 0x13
  | .c2l => 0x20
  | .l2c => 0x21
  | .lnoise => 0x30
  | .cnoise => 0x31
  | .pnoise => 0x32
  | .dropout => 0x33

/-- The instruction is well-formed, its word is legal and carries its operation code. -/
def EncodeLegal.Statement (i : Instr) : Prop :=
  i.wf = true ∧ legalWord (encode i) = true ∧ (encode i).toNat % 256 = opOf i

theorem EncodeLegal.nop : EncodeLegal.Statement .nop := by unfold EncodeLegal.Statement; decide
theorem EncodeLegal.toyiq : EncodeLegal.Statement .toyiq := by unfold EncodeLegal.Statement; decide
theorem EncodeLegal.fromyiq : EncodeLegal.Statement .fromyiq := by unfold EncodeLegal.Statement; decide
theorem EncodeLegal.lpf (pm : BitVec 3) : EncodeLegal.Statement (.lpf pm) := by unfold EncodeLegal.Statement; revert pm; decide
theorem EncodeLegal.hpf (pm : BitVec 3) : EncodeLegal.Statement (.hpf pm) := by unfold EncodeLegal.Statement; revert pm; decide
theorem EncodeLegal.lpf3 (pm : BitVec 3) : EncodeLegal.Statement (.lpf3 pm) := by unfold EncodeLegal.Statement; revert pm; decide
theorem EncodeLegal.preemph : EncodeLegal.Statement .preemph := by unfold EncodeLegal.Statement; decide
theorem EncodeLegal.c2l : EncodeLegal.Statement .c2l := by unfold EncodeLegal.Statement; decide
theorem EncodeLegal.l2c : EncodeLegal.Statement .l2c := by unfold EncodeLegal.Statement; decide
theorem EncodeLegal.lnoise : EncodeLegal.Statement .lnoise := by unfold EncodeLegal.Statement; decide
theorem EncodeLegal.cnoise : EncodeLegal.Statement .cnoise := by unfold EncodeLegal.Statement; decide
theorem EncodeLegal.pnoise : EncodeLegal.Statement .pnoise := by unfold EncodeLegal.Statement; decide
theorem EncodeLegal.dropout : EncodeLegal.Statement .dropout := by unfold EncodeLegal.Statement; decide

end Sys2Proof.Laws
end

