-- ==== Sys2Proof/Tests/Slice0.lean ====
section
/-! SUPPORT. Tests of the model on words and vectors of the spec (95_test_vectors.md and the examples of the rules),
each about one step or one function. -/

namespace Sys2Proof.Tests

open Sys2Proof.Machine

/-! ### Well-formedness: an ill-formed word for each check (30_encoding.md R84) -/

theorem test_reserved_bit_refused : reservedClear 0x00000810#32 = false ∧ legalWord 0x00000810#32 = false := by decide
theorem test_undefined_op_refused : opDefined 0x00000022#32 = false ∧ legalWord 0x00000022#32 = false := by decide
theorem test_stray_mask_refused : maskAllowed 0x00000120#32 = false ∧ legalWord 0x00000120#32 = false := by decide
theorem test_legal_words : [0x00000000#32, 0x00000710#32, 0x00000033#32].all legalWord = true := by decide
/-- The checks on a host's access (20_memory.md R65): misaligned, and outside the space. -/
theorem test_offsets : offsetOk 0x02 = false ∧ offsetOk 0x100 = false ∧ offsetOk 0xFC = true := by decide

/-! ### Decoding: words written out from 30_encoding.md R80, R81 (V-ENC-1, V-ENC-2), bits 31:11, 10:8, 7:0 -/

theorem test_decode_nop : decode (0b000000000000000000000#21 ++ 0b000#3 ++ 0x00#8) = .ok .nop := rfl
theorem test_decode_toyiq : decode (0b000000000000000000000#21 ++ 0b000#3 ++ 0x01#8) = .ok .toyiq := rfl
theorem test_decode_fromyiq : decode 0x00000002#32 = .ok .fromyiq := rfl
theorem test_decode_lpf_iq : decode (0b000000000000000000000#21 ++ 0b110#3 ++ 0x10#8) = .ok (.lpf 0b110#3) := rfl
theorem test_decode_hpf_y : decode (0b000000000000000000000#21 ++ 0b001#3 ++ 0x11#8) = .ok (.hpf 0b001#3) := rfl
theorem test_decode_lpf3_yiq : decode 0x00000712#32 = .ok (.lpf3 7#3) := rfl
theorem test_decode_preemph : decode 0x00000013#32 = .ok .preemph := rfl
theorem test_decode_c2l : decode (0b000000000000000000000#21 ++ 0b000#3 ++ 0x20#8) = .ok .c2l := rfl
theorem test_decode_l2c : decode 0x00000021#32 = .ok .l2c := rfl
theorem test_decode_lnoise : decode (0b000000000000000000000#21 ++ 0b000#3 ++ 0x30#8) = .ok .lnoise := rfl
theorem test_decode_cnoise : decode 0x00000031#32 = .ok .cnoise := rfl
theorem test_decode_pnoise : decode 0x00000032#32 = .ok .pnoise := rfl
theorem test_decode_dropout : decode 0x00000033#32 = .ok .dropout := rfl
theorem test_decode_rejects : [0x00000003#32, 0x000000FF#32, 0x00000101#32, 0x00000713#32, 0x80000000#32].all
    (fun w => (decodeTableWord 32 w.toNat).isNone) = true := by decide
theorem test_encode_lpf3_iq : encode (.lpf3 6#3) = 0x00000612#32 := by decide
theorem test_decode_table_word : decodeTableWord 32 0x610 = some (.lpf 6#3) := by decide

/-! ### A small machine -/

/-- Samples from index 0 on. -/
def cells (vs : List Int) : Memory 32 := vs.zipIdx.map (fun e => (e.2, BitVec.ofInt 32 e.1))

/-- Bytes from index 0 on. -/
def bytes (vs : List Nat) : Memory 8 := vs.zipIdx.map (fun e => (e.2, BitVec.ofNat 8 e.1))

/-- A machine just reset but for a plane shape and the planes' samples. -/
def lab (h w : Nat) (ys is qs : List Int) : State :=
  { State.reset with
    plH := BitVec.ofNat 16 h
    plW := BitVec.ofNat 16 w
    planeY := cells ys
    planeI := cells is
    planeQ := cells qs }

/-- The next state, where there is one. -/
def nextOf (o : Host.Outcome State Fault Refusal) : Option State :=
  match o with
  | .next t => some t
  | .fault _ => none
  | .refused _ => none

/-- One part of the next state. -/
def after {α : Type} (o : Host.Outcome State Fault Refusal) (f : State → α) : Option α := (nextOf o).map f

/-- The row of 41_filters.md's examples. -/
def stepRow : List Int := [0, 0, 1000, 1000, 1000, 1000, 0, 0]

/-! ### Commands, by the examples and vectors of the spec -/

/-- V-FAULT-1: after reset `NOP` counts, and `TOYIQ` faults with code 3 on the equal empty shapes. -/
theorem test_nop_counts : after (exec .nop State.reset) (fun t => t.cmdCnt) = some 1#32 := by decide
theorem test_toyiq_at_reset_faults :
    after (exec .toyiq State.reset) (fun t => (t.errCode, t.errCmd, t.cmdCnt)) = some (3#8, 1#32, 0#32) := by decide
/-- V-CSC-1, blue: (255, 0, 0) gives (7181, -21001, 20374). -/
theorem test_toyiq_blue :
    after (exec .toyiq { State.reset with
      srcH := 1, srcW := 1, dstH := 1, dstW := 1, src := bytes [255, 0, 0] })
      (fun t => (t.rowOf .y 0, t.rowOf .i 0, t.rowOf .q 0)) = some ([7181], [-21001], [20374]) := by decide
/-- V-CSC-2: (32768, 40000, -30000) gives (0, 161, 205). -/
theorem test_fromyiq_clips :
    after (exec .fromyiq { lab 1 1 [32768] [40000] [-30000] with dstH := 1, dstW := 1 }) (fun t => t.dst) =
      some [(0, 0#8), (1, 161#8), (2, 205#8)] := by decide
/-- V-FAULT-5. -/
theorem test_fromyiq_shape :
    after (exec .fromyiq { lab 4 6 [] [] [] with dstH := 4, dstW := 8 }) (fun t => (t.errCode, t.dst)) =
      some (2#8, []) := by decide
/-- V-FLT-1. -/
theorem test_lpf_step :
    after (exec (.lpf 1#3) { lab 1 8 stepRow [] [] with fltAlpha := 40044 }) (fun t => t.rowOf .y 0) =
      some [0, 0, 611, 849, 941, 977, 380, 148] := by decide
/-- V-FLT-9: `LPF.i` on field 1 leaves the rows of field 0. -/
theorem test_lpf_field :
    after (exec (.lpf 2#3) { lab 2 1 [] [5, 9] [] with field := 1, fltReset := 7 }) (fun t => t.planeI) =
      some [(0, 5#32), (1, 7#32)] := by decide
/-- V-FLT-4. -/
theorem test_hpf_step :
    after (exec (.hpf 1#3) { lab 1 8 stepRow [] [] with fltAlpha := 40044 }) (fun t => t.rowOf .y 0) =
      some [0, 0, 389, 151, 59, 23, -380, -148] := by decide
/-- V-FLT-8. -/
theorem test_hpf_saturates :
    after (exec (.hpf 1#3) { lab 1 2 [2147483647, -2147483648] [] [] with fltAlpha := 1, fltReset := 0x80000000#32 })
      (fun t => (t.rowOf .y 0, t.sat)) = some ([2147483647, -65535], true) := by decide
/-- V-FLT-5. -/
theorem test_lpf3_step :
    after (exec (.lpf3 1#3) { lab 1 8 stepRow [] [] with fltAlpha := 40044 }) (fun t => t.rowOf .y 0) =
      some [0, 0, 228, 494, 701, 836, 686, 462] := by decide
/-- V-FLT-6, amount 0.5; `FLT_RESET` has no influence. -/
theorem test_preemph_half :
    after (exec .preemph { lab 1 8 stepRow [] [] with fltAlpha := 40044, preAmt := 0x80#16, fltReset := 999 })
      (fun t => t.rowOf .y 0) = some [-3, -1, 1194, 1076, 1030, 1012, -190, -74] := by decide
/-- V-FLT-6, amount -1. -/
theorem test_preemph_negative :
    after (exec .preemph { lab 1 8 stepRow [] [] with fltAlpha := 40044, preAmt := 0xFF00#16 })
      (fun t => t.rowOf .y 0) = some [6, 2, 612, 849, 941, 977, 380, 148] := by decide
/-- V-SCC-12. -/
theorem test_c2l_signs :
    after (exec .c2l { lab 1 5 [-7, -3, 5, 9, -1] [3, -3, 7, -7, 1] [-2, 2, -5, 5, 0] with
      phaseOffset := 3, scAmpl := 50 }) (fun t => (t.rowOf .y 0, t.rowOf .i 0)) =
      some ([-5, -6, 0, 16, -1], [0, 0, 0, 0, 0]) := by decide
/-- V-SCC-13, the clamps of columns 0 and 2. -/
theorem test_c2l_saturates :
    after (exec .c2l { lab 1 3 [2147483647, 2147483647, 2147483647] [2147483647, 2147483647, 2147483647] [0, 0, 0] with
      scAmpl := 65535 }) (fun t => (t.rowOf .y 0, t.sat)) =
      some ([2147483647, 2147483647, -2147483648], true) := by decide
/-- V-SCC-12. -/
theorem test_l2c_signs :
    after (exec .l2c { lab 1 5 [-5, -6, 0, 16, -1] [] [] with phaseOffset := 3, scAmpl := 50 })
      (fun t => (t.rowOf .y 0, t.rowOf .i 0, t.rowOf .q 0)) =
      some ([-3, 1, 2, 3, 3], [-3, -2, 0, 0, 0], [-3, -2, 0, 0, 0]) := by decide
/-- V-SCC-11, three columns. -/
theorem test_l2c_narrow :
    after (exec .l2c { lab 1 3 [107, 109, 93] [] [] with scAmpl := 50 })
      (fun t => (t.rowOf .y 0, t.rowOf .i 0, t.rowOf .q 0)) =
      some ([77, 77, 50], [-16, -33, -50], [77, 38, 0]) := by decide
/-- V-NGU-1. -/
theorem test_lnoise_row :
    after (exec .lnoise { lab 1 8 [1000, 1000, 1000, 1000, 1000, 1000, 1000, 1000] [] [] with
      lnoiseAmp := 100, prngState := 1 }) (fun t => (t.rowOf .y 0, t.prngState)) =
      some ([1014, 1012, 1000, 1021, 1042, 994, 996, 984], 0x8E625FC9#32) := by decide
/-- V-NGU-3: amplitude 1 changes no sample but draws. -/
theorem test_lnoise_amplitude_one :
    after (exec .lnoise { lab 1 2 [5, 6] [] [] with lnoiseAmp := 1, prngState := 1 })
      (fun t => (t.rowOf .y 0, t.prngState)) = some ([5, 6], 0x5E8885DB#32) := by decide
/-- V-NGU-4. -/
theorem test_cnoise_rows :
    after (exec .cnoise { lab 1 4 [] [300, 300, 300, 300] [-100, -100, -100, -100] with
      cnoiseAmp := 100, prngState := 1 }) (fun t => (t.rowOf .i 0, t.rowOf .q 0, t.prngState)) =
      some ([314, 312, 300, 321], [-69, -111, -107, -118], 0x8E625FC9#32) := by decide
/-- V-NGU-6, the first row. -/
theorem test_pnoise_rotates :
    after (exec .pnoise { lab 1 2 [] [1000, 1000] [500, 500] with pnoiseAmp := 50, prngState := 1 })
      (fun t => (t.rowOf .i 0, t.rowOf .q 0, t.prngState)) =
      some ([546, 546], [976, 976], 0x3C88596C#32) := by decide
/-- V-NGU-8. -/
theorem test_dropout_all :
    after (exec .dropout { lab 4 1 [] [300, 300, 300, 300] [-100, -100, -100, -100] with
      chromaLoss := 100000, prngState := 1 }) (fun t => (t.planeI.map Prod.snd, t.prngState)) =
      some ([0#32, 300#32, 0#32, 300#32], 0x5E8885DB#32) := by decide
theorem test_dropout_none :
    after (exec .dropout { lab 4 1 [] [300, 300, 300, 300] [-100, -100, -100, -100] with
      chromaLoss := 1, prngState := 1 }) (fun t => (t.planeI.map Prod.snd, t.prngState)) =
      some ([300#32, 300#32, 300#32, 300#32], 0x5E8885DB#32) := by decide

/-! ### The host's transactions, by V-SYS-1, V-SYS-2 and V-FAULT-4 -/

theorem test_write_truncates :
    after (perform (.writeReg 0x20 0x00012345#32) State.reset) (fun t => t.readReg .srcH) = some 0x00002345#32 := by
  decide
theorem test_status_clears_sat :
    (after (perform (.writeReg 0x08 3#32) { State.reset with sat := true }) (fun t => t.sat),
     after (perform (.writeReg 0x08 4#32) { State.reset with sat := true }) (fun t => t.sat)) =
      (some true, some false) := by decide
theorem test_status_reads_six :
    after (perform (.readReg 0x08) { State.reset with sat := true, errCode := 2 }) (fun t => t.response) =
      some (some (.word 6#32)) := by decide
theorem test_latched_fault_discards :
    after (perform (.writeReg 0x04 0xFFFFFFFF#32) { State.reset with errCode := 1, errCmd := 0x120#32 })
      (fun t => (t.errCode, t.errCmd)) = some (1#8, 0x120#32) := by decide
theorem test_step_runs_first_word :
    after (step (State.reset.withFetchWord 32 0)) (fun t => (t.cmdCnt, t.script)) = some (1#32, []) := by decide
theorem test_script_negative_value :
    after (runScript [.wr .preAmt (-256), .rd .preAmt] State.reset) (fun t => t.response) =
      some (some (.word 0x0000FF00#32)) := by decide
/-- 20_memory.md R65: the sample range ends at `2^31-1`, a register word at `2^32-1` (log 13). -/
theorem test_script_values_in_range :
    lineOps State.reset (.sample .y 0 0 0x7FFFFFFF) = .ok [.writeSample .y 0 0x7FFFFFFF#32] ∧
    lineOps State.reset (.wr .chromaLoss 0xFFFFFFFF) = .ok [.writeReg 0x64 0xFFFFFFFF#32] ∧
    lineOps State.reset (.wr .fltReset (-0x80000000)) = .ok [.writeReg 0x50 0x80000000#32] := ⟨rfl, rfl, rfl⟩
theorem test_script_values_out_of_range :
    lineOps State.reset (.sample .q 0 0 0x80000000) = .error (.noSuchValue 0x80000000) ∧
    lineOps State.reset (.wr .prngState 0x100000000) = .error (.noSuchValue 0x100000000) ∧
    runScript [.wr .fltReset (-0x80000001)] State.reset = .refused (.noSuchValue (-0x80000001)) := ⟨rfl, rfl, rfl⟩

end Sys2Proof.Tests
end

