-- ==== Sys2Proof/Tests/Witnesses.lean ====
section
/-! SUPPORT. For each statement with hypotheses, a concrete state and operands that meet all of them together, clause
by clause where a statement has several. `witness_X` is the witness of `Obligations.X`. -/

namespace Sys2Proof.Tests

open Sys2Proof.Machine

/-- Every shape 1 by 1, every memory written, every parameter away from its neutral value, no fault latched. -/
def ready : State :=
  { lab 1 1 [1000] [300] [-100] with
    srcH := 1
    srcW := 1
    dstH := 1
    dstW := 1
    phaseMode := 3
    scAmpl := 1
    fltAlpha := 65535
    preAmt := 0x8000
    lnoiseAmp := 1
    cnoiseAmp := 65535
    pnoiseAmp := 1
    chromaLoss := 1
    src := bytes [1, 2, 3]
    dst := bytes [4, 5, 6] }

/-- The largest shape of the reference configuration, nothing written. -/
def huge : State := { ready with plH := 1024, plW := 1024, planeY := [], planeI := [], planeQ := [] }

/-- A shape one row too high. -/
def tooHigh : State := { ready with plH := 1025, dstH := 1025 }

/-- A shape of no rows. -/
def empty : State := { ready with plH := 0, dstH := 0, srcH := 0 }

/-- A fault is latched. -/
def latched : State := { ready with errCode := 3, errCmd := 0x20#32 }

/-- A row of eight samples, constant in each plane. -/
def constantRow : State :=
  { lab 1 8 (List.replicate 8 10000) (List.replicate 8 400) (List.replicate 8 (-200)) with scAmpl := 50 }

theorem exists_next {o : Host.Outcome State Fault Refusal} (h : (nextOf o).isSome = true) : ∃ t, o = .next t := by
  cases o with
  | next t => exact ⟨t, rfl⟩
  | fault e => cases h
  | refused e => cases h

theorem exists_fault {o : Host.Outcome State Fault Refusal}
    (h : (match o with | .fault _ => true | .next _ => false | .refused _ => false) = true) : ∃ e, o = .fault e := by
  cases o with
  | next t => cases h
  | fault e => exact ⟨e, rfl⟩
  | refused e => cases h

/-! ### Encoding and the step -/

theorem witness_DecodeAndEncodeAgree : (Instr.lpf 7#3).wf = true ∧ decode 0x00000710#32 = .ok (.lpf 7#3) :=
  ⟨rfl, rfl⟩
theorem witness_IllegalWordsAreExactlyThoseOfTheRule :
    (∃ e, decode 0x00000014#32 = .error e) ∧ ready.errCode = 0#8 := ⟨⟨.unknownOp, rfl⟩, rfl⟩
theorem witness_StepRunsTheDecodedCommand :
    { ready with script := [.writeReg 0x04 0x33#32, .reset] }.script = .writeReg 0x04 0x33#32 :: [.reset] ∧
    decode 0x33#32 = .ok .dropout := ⟨rfl, rfl⟩
theorem witness_StepPerformsTheNextTransaction :
    { ready with script := [.readReg 0x08] }.script = .readReg 0x08 :: [] ∧ ready.script = [] := ⟨rfl, rfl⟩
theorem witness_LatchedFaultDiscardsCommands :
    latched.errCode ≠ 0#8 ∧ (isParameter .prngState = true ∧ ∃ w, HostOp.writeReg 0x68 5#32 = .writeReg (regOffset .prngState) w) ∧
    (∃ f k, HostOp.readByte .src 0 = .readByte f k) ∧ ∃ p k v, HostOp.writeSample .q 7 0#32 = .writeSample p k v :=
  ⟨by decide, ⟨rfl, 5#32, rfl⟩, ⟨.src, 0, rfl⟩, ⟨.q, 7, 0#32, rfl⟩⟩
theorem witness_FaultEntryChangesOnlyTheFaultRegisters :
    (∃ t, exec (.lpf3 0#3) empty = .next t ∧ t.errCode ≠ empty.errCode) ∧
    (∃ e, decode 0x00000100#32 = .error e) ∧ empty.errCode = 0#8 :=
  ⟨⟨empty.raiseFault .invalidArg (encode (.lpf3 0#3)), rfl, by decide⟩, ⟨.strayMask, rfl⟩, rfl⟩
theorem witness_FaultsAreRaisedExactlyByTheirCauses_mismatch :
    { ready with srcW := 2 }.errCode = 0#8 ∧ ¬({ ready with srcW := 2 }.srcW = { ready with srcW := 2 }.dstW) := by
  decide
theorem witness_FaultsAreRaisedExactlyByTheirCauses_shape :
    tooHigh.errCode = 0#8 ∧ tooHigh.dstH = tooHigh.plH ∧ tooHigh.dstW = tooHigh.plW ∧
    ¬(tooHigh.plH.toNat ≤ tooHigh.cfg.hmax) ∧ empty.srcH = empty.dstH ∧ empty.srcW = empty.dstW ∧
    ¬(1 ≤ empty.srcH.toNat) := by decide
theorem witness_FaultsAreRaisedExactlyByTheirCauses_mode :
    { ready with phaseMode := 4 }.errCode = 0#8 ∧ 3 < { ready with phaseMode := 4 }.phaseMode.toNat := by decide
theorem witness_FaultsAreRaisedExactlyByTheirCauses_none :
    ready.errCode = 0#8 ∧ ready.srcH = ready.dstH ∧ ready.srcW = ready.dstW ∧ ready.dstH = ready.plH ∧
    ready.dstW = ready.plW ∧ 1 ≤ ready.plH.toNat ∧ ready.plH.toNat ≤ ready.cfg.hmax ∧ 1 ≤ ready.plW.toNat ∧
    ready.plW.toNat ≤ ready.cfg.wmax ∧ ¬(3 < ready.phaseMode.toNat) ∧
    (nextOf (exec .c2l ready)).isSome = true := by decide

/-! ### The whole machine -/

theorem ready_inv : Inv ready where
  faultRegs := by decide
  srcWf := by decide
  dstWf := by decide
  planeWf := fun p => by cases p <;> decide
  srcBelow := by decide
  dstBelow := by decide
  planeBelow := fun p => by cases p <;> decide

theorem witness_EveryStepKeepsTheStateSound : Inv ready ∧ ∃ t, step ready = .next t := ⟨ready_inv, ready, rfl⟩
theorem witness_ConfigurationIsFixed : ∃ t, step (ready.withFetchWord 32 0x12) = .next t :=
  exists_next (by decide)

/-- Every command completes on the small machine. -/
theorem ready_completes : [Instr.nop, .toyiq, .fromyiq, .lpf 7#3, .hpf 7#3, .lpf3 7#3, .preemph, .c2l, .l2c, .lnoise,
    .cnoise, .pnoise, .dropout].all
      (fun i => after (exec i ready) (fun t => (t.errCode, t.cmdCnt)) == some (0#8, 1#32)) = true := by decide

theorem witness_CommandsChangeOnlyTheseRegistersAndMemories : ∃ t, exec .cnoise ready = .next t := exists_next (by decide)
theorem witness_SaturationFlagIsSticky :
    ∃ t, exec .dropout { ready with sat := true } = .next t ∧ { ready with sat := true }.sat = true := by
  obtain ⟨t, ht⟩ := exists_next (o := exec .dropout { ready with sat := true }) (by decide)
  exact ⟨t, ht, rfl⟩
theorem witness_CommandCounterCountsCompletions :
    (∃ t, exec .nop { ready with cmdCnt := 0xFFFFFFFF#32 } = .next t ∧ t.errCode = 0#8) ∧
    (∃ t, exec .nop latched = .next t) ∧ (∃ t, perform (.writeReg 0x04 0x14#32) ready = .next t) ∧
    (0x14 ≠ 0x04 ∧ ∃ t, perform (.writeReg 0x14 99#32) ready = .next t) :=
  ⟨⟨_, rfl, rfl⟩, exists_next (by decide), exists_next (by decide), by decide, exists_next (by decide)⟩
theorem witness_CommandsStopOnlyAtUnwrittenLocations : ∃ e, exec (.lpf 1#3) (lab 1 1 [] [] []) = .fault e :=
  exists_fault (by decide)
theorem witness_OnlyToyiqDependsOnSrc : Instr.dropout ≠ .toyiq := by decide
theorem witness_OnlyTheCodecReadsTheCodecParameters : Instr.dropout ≠ .c2l ∧ Instr.dropout ≠ .l2c := by decide
theorem witness_OnlyTheFieldNumberModFourMatters :
    (7#32).toNat % 4 = { ready with fieldNo := 3 }.fieldNo.toNat % 4 ∧
    (0xFFFFFFFC#32).toNat % 4 = ready.phaseOffset.toNat % 4 := by decide

/-! ### The host's transactions and the operands -/

theorem witness_HostRegisterWrite :
    decode 0x21#32 = .ok .l2c ∧ (∃ e, decode 0x22#32 = .error e) ∧ isParameter .field = true ∧
    (0x18 % 4 = 0 ∧ 0x18 ≤ 0xFC) ∧ (0x6C % 4 = 0 ∧ 0x6C ≤ 0xFC) ∧ (0xFC % 4 = 0 ∧ 0x6C ≤ 0xFC) :=
  ⟨rfl, ⟨.unknownOp, rfl⟩, by decide⟩
theorem witness_HostRegisterRead : 0xFC % 4 = 0 ∧ 0xFC ≤ 0xFC ∧ 0x00 % 4 = 0 ∧ 0x68 % 4 = 0 := by decide
theorem witness_HostMemoryIsPlainStorage :
    3145727 < frameSize ready.cfg ∧ memGet (ready.frame .dst) 3145727 = none ∧
    1048575 < planeSize ready.cfg ∧ memGet (ready.plane .q) 1048575 = none ∧ 0 < planeSize ready.cfg := by decide
theorem witness_AccessesOutsideTheInterfaceAreRefused :
    (0x03 % 4 ≠ 0 ∨ 0xFC < 0x03) ∧ (0x100 % 4 ≠ 0 ∨ 0xFC < 0x100) ∧
    3 * ready.cfg.hmax * ready.cfg.wmax ≤ 3145728 ∧ ready.cfg.hmax * ready.cfg.wmax ≤ 1048576 := by decide
theorem witness_PlaneSamplesAreLittleEndian : memGet (ready.plane .q) 0 = some (BitVec.ofInt 32 (-100)) := by decide
theorem witness_ValidShapesFitTheMemories :
    huge.planeShapeValid = true ∧ 1023 < huge.plH.toNat ∧ 1023 < huge.plW.toNat ∧ ready.srcShapeValid = true ∧
    validHeight ready.cfg ready.dstH = true ∧ validWidth ready.cfg ready.dstW = true := by decide
theorem witness_FieldRowsOfOneParity : 0 < 2 ∧ 1 < 2 := by decide
theorem witness_ScanlinePhaseOfEachMode :
    { ready with phaseMode := 0 }.phaseMode = 0#3 ∧ { ready with phaseMode := 1 }.phaseMode = 1#3 ∧
    { ready with phaseMode := 2 }.phaseMode = 2#3 ∧ ready.phaseMode = 3#3 := by decide
theorem witness_RotationTableChecks : referenceConfig.sincos = .reference := rfl

/-! ### Colour-space converter and filter unit -/

theorem witness_ToyiqConvertsTheSourceFrame :
    ready.errCode = 0#8 ∧ ready.srcH = ready.dstH ∧ ready.srcW = ready.dstW ∧ ready.srcShapeValid = true ∧
    ready.srcReadable = true ∧ ready.cfg.wf = true := by decide
theorem witness_ToyiqConvertsTheSourceFrame_mismatch :
    { ready with dstW := 2 }.errCode = 0#8 ∧ ¬({ ready with dstW := 2 }.srcW = { ready with dstW := 2 }.dstW) := by
  decide
theorem witness_ToyiqConvertsTheSourceFrame_invalid :
    empty.errCode = 0#8 ∧ empty.srcH = empty.dstH ∧ empty.srcW = empty.dstW ∧ empty.srcShapeValid = false := by decide
theorem witness_FromyiqConvertsTheFieldRows :
    ready.errCode = 0#8 ∧ ready.dstH = ready.plH ∧ ready.dstW = ready.plW ∧ ready.planeShapeValid = true ∧
    [Plane.y, .i, .q].all (fun p => ready.fieldReadable p) = true := by decide
theorem witness_FromyiqConvertsTheFieldRows_mismatch :
    { ready with dstH := 2 }.errCode = 0#8 ∧ ¬({ ready with dstH := 2 }.dstH = { ready with dstH := 2 }.plH) := by
  decide
theorem witness_FromyiqConvertsTheFieldRows_invalid :
    tooHigh.errCode = 0#8 ∧ tooHigh.dstH = tooHigh.plH ∧ tooHigh.dstW = tooHigh.plW ∧
    tooHigh.planeShapeValid = false := by decide
theorem witness_PixelRoundTripWithinOne : (0 : Int) ≤ 135 ∧ (135 : Int) ≤ 255 ∧ (0 : Int) ≤ 0 ∧ (255 : Int) ≤ 255 := by
  decide
theorem witness_LpfFiltersTheMaskedFieldRows :
    ready.errCode = 0#8 ∧ ready.planeShapeValid = true ∧ [Plane.y, .i, .q].all (fun p => ready.fieldReadable p) = true ∧
    planeSelected 5#3 .y = true ∧ planeSelected 5#3 .i = false := by decide
theorem witness_LpfFiltersTheMaskedFieldRows_invalid : empty.errCode = 0#8 ∧ empty.planeShapeValid = false := by decide
theorem witness_HpfSubtractsTheLowPass :
    ready.errCode = 0#8 ∧ ready.planeShapeValid = true ∧ [Plane.y, .i, .q].all (fun p => ready.fieldReadable p) = true ∧
    planeSelected 2#3 .i = true ∧ planeSelected 2#3 .q = false := by decide
theorem witness_HpfSubtractsTheLowPass_invalid : tooHigh.errCode = 0#8 ∧ tooHigh.planeShapeValid = false := by decide
theorem witness_Lpf3FiltersInThreePasses :
    ready.errCode = 0#8 ∧ ready.planeShapeValid = true ∧ [Plane.y, .i, .q].all (fun p => ready.fieldReadable p) = true ∧
    planeSelected 4#3 .q = true ∧ planeSelected 4#3 .y = false := by decide
theorem witness_Lpf3FiltersInThreePasses_invalid : empty.errCode = 0#8 ∧ empty.planeShapeValid = false := by decide
theorem witness_Lpf3EqualsThreeLpf :
    ready.errCode = 0#8 ∧ ready.planeShapeValid = true ∧ ∀ p, memWf (ready.plane p) = true :=
  ⟨rfl, by decide, ready_inv.planeWf⟩
theorem witness_PreemphBoostsTheLuma :
    ready.errCode = 0#8 ∧ ready.planeShapeValid = true ∧ ready.fieldReadable .y = true := by decide
theorem witness_PreemphBoostsTheLuma_invalid : empty.errCode = 0#8 ∧ empty.planeShapeValid = false := by decide
theorem witness_NeutralFilterSettingsChangeNothing :
    ((0 : Int) ≤ 65535 ∧ (65535 : Int) ≤ 65535 ∧ (-2 ^ 31 : Int) ≤ 2 ^ 31 - 1 ∧ (2 ^ 31 - 1 : Int) < 2 ^ 31) ∧
    { ready with preAmt := 0 }.errCode = 0#8 ∧ { ready with preAmt := 0 }.planeShapeValid = true ∧
    { ready with preAmt := 0 }.preAmt = 0#16 ∧ { ready with preAmt := 0 }.fieldReadable .y = true := by decide
theorem witness_LowPassStaysWithinItsInputs :
    (0 : Int) ≤ 65535 ∧ (65535 : Int) ≤ 65535 ∧ (-80000 : Int) ≤ 0 ∧ (0 : Int) ≤ 70000 ∧
    ∀ x ∈ [(5 : Int), -6, 70000, -80000], -80000 ≤ x ∧ x ≤ 70000 := by decide
theorem witness_LowPassTracksTheExactRecurrence :
    (0 : Int) < 1 ∧ (65535 : Int) ≤ 65535 ∧ 7 < stepRow.length := by decide

/-! ### Subcarrier codec -/

theorem witness_C2lPutsChromaIntoLuma :
    ready.errCode = 0#8 ∧ ready.planeShapeValid = true ∧ ready.phaseMode.toNat ≤ 3 ∧
    [Plane.y, .i, .q].all (fun p => ready.fieldReadable p) = true := by decide
theorem witness_C2lPutsChromaIntoLuma_invalid :
    empty.errCode = 0#8 ∧ empty.planeShapeValid = false ∧ { ready with phaseMode := 4 }.errCode = 0#8 ∧
    3 < { ready with phaseMode := 4 }.phaseMode.toNat := by decide
theorem witness_L2cDecodesTheLuma :
    ready.errCode = 0#8 ∧ ready.planeShapeValid = true ∧ ready.phaseMode.toNat ≤ 3 ∧ ready.scAmpl ≠ 0#16 ∧
    ready.fieldReadable .y = true := by decide
theorem witness_L2cDecodesTheLuma_noop :
    { ready with scAmpl := 0 }.errCode = 0#8 ∧ { ready with scAmpl := 0 }.planeShapeValid = true ∧
    { ready with scAmpl := 0 }.phaseMode.toNat ≤ 3 ∧ { ready with scAmpl := 0 }.scAmpl = 0#16 := by decide
theorem witness_L2cDecodesTheLuma_invalid :
    empty.errCode = 0#8 ∧ empty.planeShapeValid = false ∧ { ready with phaseMode := 4 }.errCode = 0#8 ∧
    3 < { ready with phaseMode := 4 }.phaseMode.toNat := by decide
theorem witness_ConstantRowSurvivesTheCodec :
    constantRow.errCode = 0#8 ∧ constantRow.planeShapeValid = true ∧ constantRow.phaseMode.toNat ≤ 3 ∧
    constantRow.scAmpl ≠ 0#16 ∧ 0 ∈ constantRow.rows ∧
    (∀ x < constantRow.plW.toNat, constantRow.sampleAt .y 0 x = some 10000 ∧ constantRow.sampleAt .i 0 x = some 400 ∧
      constantRow.sampleAt .q 0 x = some (-200)) ∧
    (∀ m ∈ [(400 : Int), -200, -400, 200], clamps (10000 + tdiv (m * constantRow.scAmpl.toNat) 50) = false) ∧
    ∃ s1 s2, exec .c2l constantRow = .next s1 ∧ exec .l2c s1 = .next s2 := by
  refine ⟨by decide, by decide, by decide, by decide, by decide, by decide, by decide, ?_⟩
  have h : (match exec .c2l constantRow with
    | .next s1 => (nextOf (exec .l2c s1)).isSome
    | .fault _ => false
    | .refused _ => false) = true := by decide
  generalize exec .c2l constantRow = o at h
  cases o with
  | next s1 =>
    obtain ⟨s2, hs2⟩ := exists_next h
    exact ⟨s1, s2, rfl, hs2⟩
  | fault e => cases h
  | refused e => cases h

/-! ### Noise generator unit and system -/

theorem witness_DrawStepsTheGeneratorOnce : 1 ≤ 1 ∧ 2 ^ 24 ≤ 2 ^ 24 ∧ referenceConfig.prng = .reference := by decide
theorem witness_WalkStaysWithinTheAmplitude : 1 ≤ 1 ∧ 65535 ≤ 65535 := by decide
theorem witness_LnoiseAddsAWalkToEachRow :
    ready.errCode = 0#8 ∧ ready.planeShapeValid = true ∧ ready.lnoiseAmp ≠ 0#16 ∧ ready.fieldReadable .y = true := by
  decide
theorem witness_LnoiseAddsAWalkToEachRow_noop :
    { huge with lnoiseAmp := 0 }.errCode = 0#8 ∧ { huge with lnoiseAmp := 0 }.planeShapeValid = true ∧
    { huge with lnoiseAmp := 0 }.lnoiseAmp = 0#16 := by decide
theorem witness_LnoiseAddsAWalkToEachRow_invalid : empty.errCode = 0#8 ∧ empty.planeShapeValid = false := by decide
theorem witness_CnoiseAddsAWalkToEachChromaRow :
    ready.errCode = 0#8 ∧ ready.planeShapeValid = true ∧ ready.cnoiseAmp ≠ 0#16 ∧ ready.fieldReadable .i = true ∧
    ready.fieldReadable .q = true := by decide
theorem witness_CnoiseAddsAWalkToEachChromaRow_noop :
    { huge with cnoiseAmp := 0 }.errCode = 0#8 ∧ { huge with cnoiseAmp := 0 }.planeShapeValid = true ∧
    { huge with cnoiseAmp := 0 }.cnoiseAmp = 0#16 := by decide
theorem witness_CnoiseAddsAWalkToEachChromaRow_invalid : empty.errCode = 0#8 ∧ empty.planeShapeValid = false := by
  decide
theorem witness_PnoiseRotatesTheChroma :
    ready.errCode = 0#8 ∧ ready.planeShapeValid = true ∧ ready.pnoiseAmp ≠ 0#16 ∧ ready.fieldReadable .i = true ∧
    ready.fieldReadable .q = true := by decide
theorem witness_PnoiseRotatesTheChroma_noop :
    { huge with pnoiseAmp := 0 }.errCode = 0#8 ∧ { huge with pnoiseAmp := 0 }.planeShapeValid = true ∧
    { huge with pnoiseAmp := 0 }.pnoiseAmp = 0#16 := by decide
theorem witness_PnoiseRotatesTheChroma_invalid : tooHigh.errCode = 0#8 ∧ tooHigh.planeShapeValid = false := by decide
theorem witness_DropoutZeroesTheDrawnRows :
    huge.errCode = 0#8 ∧ huge.planeShapeValid = true ∧ huge.chromaLoss ≠ 0#32 := by decide
theorem witness_DropoutZeroesTheDrawnRows_noop :
    { huge with chromaLoss := 0 }.errCode = 0#8 ∧ { huge with chromaLoss := 0 }.planeShapeValid = true ∧
    { huge with chromaLoss := 0 }.chromaLoss = 0#32 := by decide
theorem witness_DropoutZeroesTheDrawnRows_invalid : empty.errCode = 0#8 ∧ empty.planeShapeValid = false := by decide
theorem witness_NeutralNoiseChangesNothing :
    (lab 1 1 [] [] []).errCode = 0#8 ∧ (lab 1 1 [] [] []).planeShapeValid = true ∧
    (lab 1 1 [] [] []).lnoiseAmp = 0#16 ∧ (lab 1 1 [] [] []).cnoiseAmp = 0#16 ∧
    (lab 1 1 [] [] []).pnoiseAmp = 0#16 ∧ (lab 1 1 [] [] []).chromaLoss = 0#32 ∧
    Instr.pnoise ∈ [Instr.lnoise, .cnoise, .pnoise, .dropout] := by decide
theorem witness_NopOnlyCounts : empty.errCode = 0#8 ∧ latched.errCode ≠ 0#8 := by decide

end Sys2Proof.Tests
end

section
/-! PROOFS for 00_scope.md. The field rows of R10; one lemma per row operation and per host transaction that says what
it can do; and the principle that what every state operation of a command keeps, every command keeps. The fixed
configuration (R14) is then one use of it. -/

namespace Sys2Proof.Machine

/-! ### Field rows (00_scope.md R10) -/

/-- One more row belongs to the field exactly when the field has its parity. -/
theorem fieldRows_succ (f h : Nat) :
    fieldRows f (h + 1) = if h % 2 = f then fieldRows f h ++ [h] else fieldRows f h := by
  unfold fieldRows
  rw [List.range_succ, List.filter_append]
  by_cases hpar : h % 2 = f
  · simp [hpar]
  · simp [hpar]

theorem fieldRows_ascending (f h : Nat) : (fieldRows f h).Pairwise (· < ·) :=
  List.pairwise_lt_range.filter _

theorem length_fieldRows {f : Nat} (hf : f < 2) (h : Nat) : (fieldRows f h).length = (h + 1 - f) / 2 := by
  induction h with
  | zero =>
    have hnone : (0 + 1 - f) / 2 = 0 := by omega
    rw [hnone]
    rfl
  | succ h ih =>
    rw [fieldRows_succ]
    split
    · rw [List.length_append, List.length_singleton, ih]
      omega
    · rw [ih]
      omega

/-- Settles O28: membership and order come from filtering an ascending range, the count by induction on the height. -/
theorem fieldRowsOfOneParity : Obligations.FieldRowsOfOneParity := by
  unfold Obligations.FieldRowsOfOneParity
  intro f h hf
  refine ⟨fun y => mem_fieldRows, fieldRows_ascending f h, ?_⟩
  rw [length_fieldRows hf]
  unfold fdiv
  omega

/-! ### The parts of a command -/

/-- The check of each command that comes before its effect (30_encoding.md R89). -/
def checkOf : Instr → State → Option FaultCode
  | .nop, _ => none
  | .toyiq, s => toyiqCheck s
  | .fromyiq, s => fromyiqCheck s
  | .c2l, s => codecCheck s
  | .l2c, s => codecCheck s
  | _, s => planeCheck s

/-- Whether a command that passed its check is a no-op (30_encoding.md R89). -/
def isNoop : Instr → State → Bool
  | .l2c, s => s.scAmpl == 0#16
  | .lnoise, s => s.lnoiseAmp == 0#16
  | .cnoise, s => s.cnoiseAmp == 0#16
  | .pnoise, s => s.pnoiseAmp == 0#16
  | .dropout, s => s.chromaLoss == 0#32
  | _, _ => false

/-- The effect of each command, before it is counted. -/
def effectOf : Instr → State → Except Fault State
  | .nop, s => .ok s
  | .toyiq, s => toyiqEffect s
  | .fromyiq, s => forEach fromyiqRow s.rows s
  | .lpf pm, s => filterPlanes pm (fun p => mapRow p (lpRow s.alpha s.resetValue)) s
  | .hpf pm, s => filterPlanes pm (fun p => mapRowSat p (hpRow s.alpha s.resetValue)) s
  | .lpf3 pm, s => filterPlanes pm (fun p => mapRow p (lp3Row s.alpha s.resetValue)) s
  | .preemph, s => forEach (mapRowSat .y (preemphRow s.alpha s.preAmount)) s.rows s
  | .c2l, s => forEach c2lRow s.rows s
  | .l2c, s => forEach l2cRow s.rows s
  | .lnoise, s => forEach (noiseRow .y s.lnoiseAmp.toNat) s.rows s
  | .cnoise, s => forEach (cnoiseRow s.cnoiseAmp.toNat) s.rows s
  | .pnoise, s => pnoiseEffect s
  | .dropout, s => forEach (dropoutRow s.chromaLoss.toNat) s.rows s

/-- A command uses its effect in the present state only. -/
theorem runCommand_congr {i : Instr} {check : Option FaultCode} {noop : Bool}
    {effect effect' : State → Except Fault State} {s : State} (h : effect s = effect' s) :
    runCommand i check noop effect s = runCommand i check noop effect' s := by
  simp only [runCommand, h]

/-- Every command goes through the one order of evaluation, with its own check, no-op test and effect. -/
theorem exec_eq_runCommand (i : Instr) (s : State) :
    exec i s = runCommand i (checkOf i s) (isNoop i s) (effectOf i) s := by
  cases i with
  | lpf pm => exact runCommand_congr rfl
  | hpf pm => exact runCommand_congr rfl
  | lpf3 pm => exact runCommand_congr rfl
  | preemph => exact runCommand_congr rfl
  | _ => rfl

/-! ### What an operation on one row can answer -/

/-- Reading a row stops, or the whole row is written and is what it answers. -/
theorem State.readRow_cases (s : State) (p : Plane) (r : Nat) :
    (∃ e, s.readRow p r = .error e) ∨ (s.rowReadable p r = true ∧ s.readRow p r = .ok (s.rowOf p r)) := by
  cases hx : s.readRow p r with
  | error e => exact .inl ⟨e, rfl⟩
  | ok xs =>
    obtain ⟨rfl, hr⟩ := State.readRow_ok hx
    exact .inr ⟨hr, rfl⟩

section RowOperations

variable {p : Plane} {g : List Int → List Int} {amp loss r : Nat} {cs : Int × Int} {s t : State}

theorem mapRow_ok (h : mapRow p g r s = .ok t) :
    s.rowReadable p r = true ∧ t = s.writeRow p r (g (s.rowOf p r)) := by
  obtain ⟨e, hx⟩ | ⟨hr, hx⟩ := s.readRow_cases p r
  · simp [mapRow, hx] at h
  · exact ⟨hr, by simpa [mapRow, hx] using h.symm⟩

theorem mapRowSat_ok (h : mapRowSat p g r s = .ok t) :
    s.rowReadable p r = true ∧ t = s.writeRowSat p r (g (s.rowOf p r)) := by
  obtain ⟨e, hx⟩ | ⟨hr, hx⟩ := s.readRow_cases p r
  · simp [mapRowSat, hx] at h
  · exact ⟨hr, by simpa [mapRowSat, hx] using h.symm⟩

/-- `TOYIQ` of one row writes the three rows converted from the pixels it read. -/
theorem toyiqRow_ok (h : toyiqRow r s = .ok t) : ∃ ps, s.readPixels r 0 s.srcW.toNat = .ok ps ∧
    t = ((s.writeRow .y r (ps.map (fun px => (toYiq s.cfg px.1 px.2.1 px.2.2).1))).writeRow .i r
      (ps.map (fun px => (toYiq s.cfg px.1 px.2.1 px.2.2).2.1))).writeRow .q r
      (ps.map (fun px => (toYiq s.cfg px.1 px.2.1 px.2.2).2.2)) := by
  cases hx : s.readPixels r 0 s.srcW.toNat with
  | error e => simp [toyiqRow, hx] at h
  | ok ps => exact ⟨ps, rfl, by simpa [toyiqRow, hx, Function.comp_def] using h.symm⟩

theorem fromyiqRow_ok (h : fromyiqRow r s = .ok t) : (∀ p, s.rowReadable p r = true) ∧
    t = s.writePixels r (((s.rowOf .y r).zip ((s.rowOf .i r).zip (s.rowOf .q r))).map
      (fun v => fromYiq s.cfg v.1 v.2.1 v.2.2)) := by
  obtain ⟨e, hy⟩ | ⟨hyr, hy⟩ := s.readRow_cases .y r
  · simp [fromyiqRow, hy] at h
  obtain ⟨e, hi⟩ | ⟨hir, hi⟩ := s.readRow_cases .i r
  · simp [fromyiqRow, hy, hi] at h
  obtain ⟨e, hq⟩ | ⟨hqr, hq⟩ := s.readRow_cases .q r
  · simp [fromyiqRow, hy, hi, hq] at h
  exact ⟨fun | .y => hyr | .i => hir | .q => hqr, by simpa [fromyiqRow, hy, hi, hq] using h.symm⟩

theorem c2lRow_ok (h : c2lRow r s = .ok t) : (∀ p, s.rowReadable p r = true) ∧
    t = ((s.writeRowSat .y r (c2lFrom s.scAmpl.toNat (s.xi r) 0
      ((s.rowOf .y r).zip ((s.rowOf .i r).zip (s.rowOf .q r))))).writeRow .i r
      (List.replicate s.plW.toNat 0)).writeRow .q r (List.replicate s.plW.toNat 0) := by
  obtain ⟨e, hy⟩ | ⟨hyr, hy⟩ := s.readRow_cases .y r
  · simp [c2lRow, hy] at h
  obtain ⟨e, hi⟩ | ⟨hir, hi⟩ := s.readRow_cases .i r
  · simp [c2lRow, hy, hi] at h
  obtain ⟨e, hq⟩ | ⟨hqr, hq⟩ := s.readRow_cases .q r
  · simp [c2lRow, hy, hi, hq] at h
  exact ⟨fun | .y => hyr | .i => hir | .q => hqr, by simpa [c2lRow, hy, hi, hq] using h.symm⟩

/-- `L2C` of one row reads the luma alone and writes the three rows decoded from it. -/
theorem l2cRow_ok (h : l2cRow r s = .ok t) : s.rowReadable .y r = true ∧
    ∃ e, e = chromaRow (s.rowOf .y r) (s.xi r) s.scAmpl.toNat ∧
      t = (((s.writeRow .y r (lumaRow (s.rowOf .y r))).writeRow .i r (decodedChroma e (s.xi r))).writeRow .q r
        (decodedChroma e (s.xi r + 1))).noteSat (decodedClamps e (s.xi r) || decodedClamps e (s.xi r + 1)) := by
  obtain ⟨e, hx⟩ | ⟨hr, hx⟩ := s.readRow_cases .y r
  · simp [l2cRow, hx] at h
  · exact ⟨hr, _, rfl, by simpa [l2cRow, hx] using h.symm⟩

theorem noiseRow_ok (h : noiseRow p amp r s = .ok t) : s.rowReadable p r = true ∧
    t = (s.writeRowSat p r (List.zipWith (fun x acc => x + acc) (s.rowOf p r)
      (walk s.cfg amp s.plW.toNat 0 s.prngState).1)).setPrng (walk s.cfg amp s.plW.toNat 0 s.prngState).2 := by
  obtain ⟨e, hx⟩ | ⟨hr, hx⟩ := s.readRow_cases p r
  · simp [noiseRow, hx] at h
  · exact ⟨hr, by simpa [noiseRow, hx] using h.symm⟩

theorem cnoiseRow_ok (h : cnoiseRow amp r s = .ok t) :
    ∃ u, noiseRow .i amp r s = .ok u ∧ noiseRow .q amp r u = .ok t := by
  cases hu : noiseRow .i amp r s with
  | error e => simp [cnoiseRow, hu] at h
  | ok u => exact ⟨u, rfl, by simpa [cnoiseRow, hu] using h⟩

theorem rotateRow_ok (h : rotateRow cs r s = .ok t) : s.rowReadable .i r = true ∧ s.rowReadable .q r = true ∧
    t = (s.writeRowSat .i r (List.zipWith (rotateI cs) (s.rowOf .i r) (s.rowOf .q r))).writeRowSat .q r
      (List.zipWith (rotateQ cs) (s.rowOf .i r) (s.rowOf .q r)) := by
  obtain ⟨e, hi⟩ | ⟨hir, hi⟩ := s.readRow_cases .i r
  · simp [rotateRow, hi] at h
  obtain ⟨e, hq⟩ | ⟨hqr, hq⟩ := s.readRow_cases .q r
  · simp [rotateRow, hi, hq] at h
  exact ⟨hir, hqr, by simpa [rotateRow, hi, hq] using h.symm⟩

/-- `PNOISE` of one scanline: one step of the walk, whose accumulator is handed on, then the rotation. -/
theorem pnoiseRow_ok {acc acc' : Int} (h : pnoiseRow amp r (s, acc) = .ok (t, acc')) :
    acc' = (walkStep s.cfg amp acc s.prngState).1 ∧
      rotateRow (sincosAt s.cfg acc') r (s.setPrng (walkStep s.cfg amp acc s.prngState).2) = .ok t := by
  simp only [pnoiseRow] at h
  split at h
  · cases h
  · rename_i u hu
    obtain ⟨rfl, rfl⟩ : u = t ∧ _ = acc' := by simpa using h
    exact ⟨rfl, hu⟩

theorem pnoiseEffect_ok (h : pnoiseEffect s = .ok t) :
    ∃ acc, forEach (pnoiseRow s.pnoiseAmp.toNat) s.rows (s, 0) = .ok (t, acc) := by
  unfold pnoiseEffect at h
  split at h
  · cases h
  · rename_i st hst
    obtain rfl : st.1 = t := by simpa using h
    exact ⟨st.2, hst⟩

/-- `DROPOUT` of one scanline draws once, then zeroes both chroma rows or leaves the planes alone. -/
theorem dropoutRow_ok (h : dropoutRow loss r s = .ok t) : ∃ u, u = s.setPrng (prngNext s.cfg s.prngState) ∧
    (((draw s.cfg 100000 s.prngState).1 < loss ∧ t = (u.writeRow .i r (List.replicate s.plW.toNat 0)).writeRow .q r
      (List.replicate s.plW.toNat 0)) ∨
    (¬ (draw s.cfg 100000 s.prngState).1 < loss ∧ t = u)) := by
  refine ⟨_, rfl, ?_⟩
  simp only [dropoutRow, draw_snd, Except.ok.injEq] at h
  split at h
  · rename_i hlt
    exact .inl ⟨hlt, h.symm⟩
  · rename_i hge
    exact .inr ⟨hge, h.symm⟩

end RowOperations

/-! ### What the operations of a command keep, every command keeps -/

/-- Every operation on the state that a command is made of keeps the property. -/
structure KeptByCommands (P : State → Prop) : Prop where
  setPlane : ∀ {s : State} (p : Plane) (m : Memory 32), P s → P (s.setPlane p m)
  setDst : ∀ {s : State} (m : Memory 8), P s → P (s.setFrame .dst m)
  noteSat : ∀ {s : State} (b : Bool), P s → P (s.noteSat b)
  setPrng : ∀ {s : State} (st : Word), P s → P (s.setPrng st)
  takeSrcShape : ∀ {s : State}, P s → P s.takeSrcShape
  raiseFault : ∀ {s : State} (code : FaultCode) (w : Word), P s → P (s.raiseFault code w)
  complete : ∀ {s : State}, P s → P s.complete

section Keeps

variable {P : State → Prop} {p : Plane} {g : List Int → List Int} {amp loss r : Nat} {s t : State}

/-- An operation that keeps a property on each row keeps it on the field rows of every masked plane. -/
theorem filterPlanes_keeps {pm : BitVec 3} {op : Plane → Nat → State → Except Fault State}
    (hop : ∀ p r u u', P u → op p r u = .ok u' → P u') (hs : P s) (h : filterPlanes pm op s = .ok t) : P t :=
  forEach_keeps (fun p _ _ _ hu hpass => forEach_keeps (fun r _ => hop p r) hpass hu) h hs

variable (hP : KeptByCommands P) (hs : P s)
include hP hs

theorem writeRow_keeps (p : Plane) (r : Nat) (vs : List Int) : P (s.writeRow p r vs) := hP.setPlane p _ hs

theorem writeRowSat_keeps (p : Plane) (r : Nat) (vs : List Int) : P (s.writeRowSat p r vs) :=
  hP.noteSat _ (writeRow_keeps hP hs p r _)

theorem mapRow_keeps (h : mapRow p g r s = .ok t) : P t := by
  obtain ⟨-, rfl⟩ := mapRow_ok h
  exact writeRow_keeps hP hs _ _ _

theorem mapRowSat_keeps (h : mapRowSat p g r s = .ok t) : P t := by
  obtain ⟨-, rfl⟩ := mapRowSat_ok h
  exact writeRowSat_keeps hP hs _ _ _

theorem toyiqRow_keeps (h : toyiqRow r s = .ok t) : P t := by
  obtain ⟨ps, -, rfl⟩ := toyiqRow_ok h
  exact writeRow_keeps hP (writeRow_keeps hP (writeRow_keeps hP hs _ _ _) _ _ _) _ _ _

theorem fromyiqRow_keeps (h : fromyiqRow r s = .ok t) : P t := by
  obtain ⟨-, rfl⟩ := fromyiqRow_ok h
  exact hP.setDst _ hs

theorem c2lRow_keeps (h : c2lRow r s = .ok t) : P t := by
  obtain ⟨-, rfl⟩ := c2lRow_ok h
  exact writeRow_keeps hP (writeRow_keeps hP (writeRowSat_keeps hP hs _ _ _) _ _ _) _ _ _

theorem l2cRow_keeps (h : l2cRow r s = .ok t) : P t := by
  obtain ⟨-, e, -, rfl⟩ := l2cRow_ok h
  exact hP.noteSat _ (writeRow_keeps hP (writeRow_keeps hP (writeRow_keeps hP hs _ _ _) _ _ _) _ _ _)

theorem noiseRow_keeps (h : noiseRow p amp r s = .ok t) : P t := by
  obtain ⟨-, rfl⟩ := noiseRow_ok h
  exact hP.setPrng _ (writeRowSat_keeps hP hs _ _ _)

theorem cnoiseRow_keeps (h : cnoiseRow amp r s = .ok t) : P t := by
  obtain ⟨u, hi, hq⟩ := cnoiseRow_ok h
  exact noiseRow_keeps hP (noiseRow_keeps hP hs hi) hq

theorem pnoiseRow_keeps {acc acc' : Int} (h : pnoiseRow amp r (s, acc) = .ok (t, acc')) : P t := by
  obtain ⟨-, hrot⟩ := pnoiseRow_ok h
  obtain ⟨-, -, rfl⟩ := rotateRow_ok hrot
  exact writeRowSat_keeps hP (writeRowSat_keeps hP (hP.setPrng _ hs) _ _ _) _ _ _

theorem pnoiseEffect_keeps (h : pnoiseEffect s = .ok t) : P t := by
  obtain ⟨acc, hrows⟩ := pnoiseEffect_ok h
  exact forEach_keeps (P := fun st => P st.1) (fun _ _ _ _ hu hrow => pnoiseRow_keeps hP hu hrow) hrows hs

theorem dropoutRow_keeps (h : dropoutRow loss r s = .ok t) : P t := by
  obtain ⟨u, rfl, ⟨-, rfl⟩ | ⟨-, rfl⟩⟩ := dropoutRow_ok h
  · exact writeRow_keeps hP (writeRow_keeps hP (hP.setPrng _ hs) _ _ _) _ _ _
  · exact hP.setPrng _ hs

theorem effectOf_keeps {i : Instr} (h : effectOf i s = .ok t) : P t := by
  cases i with
  | nop =>
    obtain rfl : s = t := by simpa [effectOf] using h
    exact hs
  | toyiq => exact forEach_keeps (fun _ _ _ _ hu => toyiqRow_keeps hP hu) h (hP.takeSrcShape hs)
  | fromyiq => exact forEach_keeps (fun _ _ _ _ hu => fromyiqRow_keeps hP hu) h hs
  | lpf pm => exact filterPlanes_keeps (fun _ _ _ _ hu => mapRow_keeps hP hu) hs h
  | hpf pm => exact filterPlanes_keeps (fun _ _ _ _ hu => mapRowSat_keeps hP hu) hs h
  | lpf3 pm => exact filterPlanes_keeps (fun _ _ _ _ hu => mapRow_keeps hP hu) hs h
  | preemph => exact forEach_keeps (fun _ _ _ _ hu => mapRowSat_keeps hP hu) h hs
  | c2l => exact forEach_keeps (fun _ _ _ _ hu => c2lRow_keeps hP hu) h hs
  | l2c => exact forEach_keeps (fun _ _ _ _ hu => l2cRow_keeps hP hu) h hs
  | lnoise => exact forEach_keeps (fun _ _ _ _ hu => noiseRow_keeps hP hu) h hs
  | cnoise => exact forEach_keeps (fun _ _ _ _ hu => cnoiseRow_keeps hP hu) h hs
  | pnoise => exact pnoiseEffect_keeps hP hs h
  | dropout => exact forEach_keeps (fun _ _ _ _ hu => dropoutRow_keeps hP hu) h hs

theorem exec_keeps {i : Instr} (h : exec i s = .next t) : P t := by
  rw [exec_eq_runCommand] at h
  obtain ⟨-, rfl⟩ | ⟨-, code, -, rfl⟩ | ⟨-, -, -, rfl⟩ | ⟨-, -, -, u, hu, rfl⟩ := runCommand_cases h
  · exact hs
  · exact hP.raiseFault _ _ hs
  · exact hP.complete hs
  · exact hP.complete (effectOf_keeps hP hs hu)

theorem issueIllegal_keeps (w : Word) : P (issueIllegal w s) := by
  unfold issueIllegal
  split
  · exact hs
  · exact hP.raiseFault _ _ hs

/-- A write to `CMD` keeps the property, whether its word is legal or not. -/
theorem issue_keeps {w : Word} (h : issue w s = .next t) : P t := by
  unfold issue at h
  split at h
  · exact exec_keeps hP hs h
  · obtain rfl : issueIllegal w s = t := by simpa using h
    exact issueIllegal_keeps hP hs w

end Keeps

/-! ### What a transaction of the host can do -/

/-- Everything a transaction of the host can do when it answers a next state, one case for each kind of access
(20_memory.md R65; 44_system.md R190 to R193). -/
inductive Transaction (s : State) : HostOp → State → Prop where
  | command {off : Nat} {w : Word} {t : State} (hoff : offsetOk off = true) (hreg : regAt off = some .cmd)
      (hissue : issue w s = .next t) : Transaction s (.writeReg off w) t
  | writeReg {off : Nat} {w : Word} {r : Reg} (hoff : offsetOk off = true) (hreg : regAt off = some r)
      (hr : r ≠ .cmd) : Transaction s (.writeReg off w) (s.writeReg w r)
  | writeReserved {off : Nat} {w : Word} (hoff : offsetOk off = true) (hreg : regAt off = none) :
      Transaction s (.writeReg off w) s
  | readReg {off : Nat} (hoff : offsetOk off = true) :
      Transaction s (.readReg off) (s.respond (.word (hostReadReg off s)))
  | writeByte {f : Frame} {k : Nat} {v : Byte} (hk : k < frameSize s.cfg) :
      Transaction s (.writeByte f k v) (s.setFrame f (memSet (s.frame f) k v))
  | readByte {f : Frame} {k : Nat} {v : Byte} (hk : k < frameSize s.cfg) (hv : memGet (s.frame f) k = some v) :
      Transaction s (.readByte f k) (s.respond (.byte v))
  | writeSample {p : Plane} {k : Nat} {v : Sample} (hk : k < planeSize s.cfg) :
      Transaction s (.writeSample p k v) (s.setPlane p (memSet (s.plane p) k v))
  | readSample {p : Plane} {k : Nat} {v : Sample} (hk : k < planeSize s.cfg) (hv : memGet (s.plane p) k = some v) :
      Transaction s (.readSample p k) (s.respond (.sample v))
  | reset : Transaction s .reset s.afterReset

theorem hostWriteReg_transaction {off : Nat} {w : Word} {s t : State} (hoff : offsetOk off = true)
    (h : hostWriteReg off w s = .next t) : Transaction s (.writeReg off w) t := by
  unfold hostWriteReg at h
  split at h
  · rename_i hreg
    exact .command hoff hreg h
  · rename_i r hr hreg
    obtain rfl : s.writeReg w r = t := by simpa using h
    exact .writeReg hoff hreg hr
  · rename_i hreg
    obtain rfl : s = t := by simpa using h
    exact .writeReserved hoff hreg

theorem perform_transaction {op : HostOp} {s t : State} (h : perform op s = .next t) : Transaction s op t := by
  unfold perform at h
  cases op with
  | writeReg off w =>
    simp only at h
    split at h
    · rename_i hoff
      exact hostWriteReg_transaction hoff h
    · cases h
  | readReg off =>
    simp only at h
    split at h
    · rename_i hoff
      cases h
      exact .readReg hoff
    · cases h
  | writeByte f k v =>
    simp only at h
    split at h
    · rename_i hk
      cases h
      exact .writeByte hk
    · cases h
  | readByte f k =>
    simp only at h
    split at h
    · rename_i hk
      split at h
      · rename_i v hv
        cases h
        exact .readByte hk hv
      · cases h
    · cases h
  | writeSample p k v =>
    simp only at h
    split at h
    · rename_i hk
      cases h
      exact .writeSample hk
    · cases h
  | readSample p k =>
    simp only at h
    split at h
    · rename_i hk
      split at h
      · rename_i v hv
        cases h
        exact .readSample hk hv
      · cases h
    · cases h
  | reset =>
    cases h
    exact .reset

/-- Everything a step can do: the core is idle, or the host makes its next transaction. -/
theorem step_cases {s t : State} (h : step s = .next t) :
    (s.script = [] ∧ t = s) ∨
    ∃ op rest, s.script = op :: rest ∧ Transaction { s with script := rest } op t := by
  unfold step stepScript at h
  split at h
  · rename_i hidle
    obtain rfl : s = t := by simpa using h
    exact .inl ⟨hidle, rfl⟩
  · rename_i op rest hscript
    exact .inr ⟨op, rest, hscript, perform_transaction h⟩

/-! ### The configuration (00_scope.md R14) -/

@[simp] theorem State.writeReg_cfg (s : State) (w : Word) (r : Reg) : (s.writeReg w r).cfg = s.cfg := by
  cases r with
  | status =>
    simp only [State.writeReg]
    split <;> rfl
  | _ => rfl

@[simp] theorem State.afterReset_cfg (s : State) : s.afterReset.cfg = s.cfg := rfl

theorem cfg_keptByCommands (c : Config) : KeptByCommands (fun s => s.cfg = c) where
  setPlane p m hs := by simpa using hs
  setDst m hs := by simpa using hs
  noteSat b hs := by simpa using hs
  setPrng st hs := by simpa using hs
  takeSrcShape hs := by simpa using hs
  raiseFault code w hs := by simpa using hs
  complete hs := by simpa using hs

theorem Transaction.cfg_eq {op : HostOp} {s t : State} (h : Transaction s op t) : t.cfg = s.cfg := by
  cases h with
  | command hoff hreg hissue => exact issue_keeps (cfg_keptByCommands s.cfg) rfl hissue
  | writeReg => exact s.writeReg_cfg _ _
  | writeReserved => rfl
  | readReg => exact s.respond_cfg _
  | writeByte => exact s.setFrame_cfg _ _
  | readByte => exact s.respond_cfg _
  | writeSample => exact s.setPlane_cfg _ _
  | readSample => exact s.respond_cfg _
  | reset => exact s.afterReset_cfg

/-- Settles O13: an idle core keeps its state, and no transaction of the host writes the configuration. -/
theorem configurationIsFixed : Obligations.ConfigurationIsFixed := by
  unfold Obligations.ConfigurationIsFixed
  intro s t h
  obtain ⟨-, rfl⟩ | ⟨op, rest, -, htrans⟩ := step_cases h
  · rfl
  · exact htrans.cfg_eq

end Sys2Proof.Machine
end

section
/-! PROOFS for 10_state.md: the elementary updates an effect is made of, with the permission each command has for
them; what they leave unchanged; one lemma per row operation, which answers by such updates or stops at an unwritten
location; and from these everything a command can answer (`effectOf_runs`, `exec_cases`). -/

namespace Sys2Proof.Machine

/-! ### The elementary updates of an effect -/

/-- The planes a command may write (30_encoding.md R83). -/
def writesPlane : Instr → Plane → Bool
  | .nop, _ => false
  | .fromyiq, _ => false
  | .lpf pm, p => planeSelected pm p
  | .hpf pm, p => planeSelected pm p
  | .lpf3 pm, p => planeSelected pm p
  | .preemph, p => p == .y
  | .lnoise, p => p == .y
  | .cnoise, p => p != .y
  | .pnoise, p => p != .y
  | .dropout, p => p != .y
  | _, _ => true

/-- The commands that can set `STATUS.SAT` (10_state.md R49). -/
def maySaturate : Instr → Bool
  | .hpf _ => true
  | .preemph => true
  | .c2l => true
  | .l2c => true
  | .lnoise => true
  | .cnoise => true
  | .pnoise => true
  | _ => false

/-- The commands that draw from the generator (43_noise.md R160). -/
def drawsNoise : Instr → Bool
  | .lnoise => true
  | .cnoise => true
  | .pnoise => true
  | .dropout => true
  | _ => false

/-- One elementary update that the effect of a command may make: a write along a row of a plane it may write, or
along a row of `DST`; a note of a clamp; a draw. The row lies inside the plane shape. -/
inductive EffectStep (i : Instr) (s : State) : State → Prop where
  | writeRow {p : Plane} {r : Nat} {vs : List Int} (hp : writesPlane i p = true) (hr : r < s.plH.toNat)
      (hlen : vs.length ≤ s.plW.toNat) : EffectStep i s (s.writeRow p r vs)
  | writePixels {r : Nat} {ps : List (Int × Int × Int)} (hi : i = .fromyiq) (hr : r < s.plH.toNat)
      (hlen : ps.length ≤ s.plW.toNat) : EffectStep i s (s.writePixels r ps)
  | noteSat {b : Bool} (hi : maySaturate i = true) : EffectStep i s (s.noteSat b)
  | setPrng {st : Word} (hi : drawsNoise i = true) : EffectStep i s (s.setPrng st)

/-- Elementary updates of a command one after another. -/
abbrev Evolves (i : Instr) : State → State → Prop := Relation.ReflTransGen (EffectStep i)

/-- What every elementary update keeps, any number of them keeps. -/
theorem Evolves.keeps {i : Instr} {s t : State} {P : State → Prop} (h : Evolves i s t)
    (hstep : ∀ {u v}, EffectStep i u v → P u → P v) (hs : P s) : P t := by
  induction h with
  | refl => exact hs
  | tail _ hlast ih => exact hstep hlast ih

/-! ### What the updates leave unchanged -/

/-- The first state with the registers and memories of the second that an effect may change. -/
def State.withEffects (s t : State) : State :=
  { s with
    sat := t.sat, prngState := t.prngState, dst := t.dst, planeY := t.planeY, planeI := t.planeI,
    planeQ := t.planeQ }

theorem EffectStep.eq_withEffects {i : Instr} {s t : State} (h : EffectStep i s t) : t = s.withEffects t := by
  cases h with
  | @writeRow p r vs hp hr hlen => cases p <;> rfl
  | writePixels => rfl
  | noteSat => rfl
  | setPrng => rfl

/-- An effect changes at most `SAT`, `PRNG_STATE`, `DST` and the planes. -/
theorem Evolves.eq_withEffects {i : Instr} {s t : State} (h : Evolves i s t) : t = s.withEffects t := by
  refine h.keeps (P := fun u => u = s.withEffects u) (fun {u v} hstep hu => ?_) rfl
  calc v = u.withEffects v := hstep.eq_withEffects
    _ = (s.withEffects u).withEffects v := by rw [← hu]
    _ = s.withEffects v := rfl

section Unchanged

variable {i : Instr} {s t : State}

/-- A part of the state that an effect may not change reads as before. -/
theorem Evolves.kept {α : Type} (h : Evolves i s t) (part : State → α) (hpart : part (s.withEffects t) = part s) :
    part t = part s := (congrArg part h.eq_withEffects).trans hpart

theorem Evolves.plH_eq (h : Evolves i s t) : t.plH = s.plH := h.kept State.plH rfl

theorem Evolves.plW_eq (h : Evolves i s t) : t.plW = s.plW := h.kept State.plW rfl

theorem Evolves.src_eq (h : Evolves i s t) : t.src = s.src := h.kept State.src rfl

theorem EffectStep.prngState_eq (hi : drawsNoise i = false) (h : EffectStep i s t) : t.prngState = s.prngState := by
  cases h with
  | writeRow => exact s.setPlane_prngState _ _
  | writePixels => exact s.setFrame_prngState _ _
  | noteSat => rfl
  | setPrng hdraws => simp [hi] at hdraws

theorem EffectStep.dst_eq (hi : i ≠ .fromyiq) (h : EffectStep i s t) : t.dst = s.dst := by
  cases h with
  | writeRow => exact s.setPlane_dst _ _
  | writePixels hpixels => exact absurd hpixels hi
  | noteSat => rfl
  | setPrng => rfl

theorem EffectStep.plane_eq {p : Plane} (hp : writesPlane i p = false) (h : EffectStep i s t) :
    t.plane p = s.plane p := by
  cases h with
  | @writeRow p' r vs hp' =>
    have hne : p ≠ p' := fun heq => by simp [← heq, hp] at hp'
    exact s.plane_writeRow_other p' p r vs hne
  | writePixels => exact s.plane_setFrame _ _ p
  | noteSat => rfl
  | setPrng => rfl

theorem EffectStep.sat_eq (hi : maySaturate i = false) (h : EffectStep i s t) : t.sat = s.sat := by
  cases h with
  | writeRow => exact s.setPlane_sat _ _
  | writePixels => exact s.setFrame_sat _ _
  | noteSat hsat => simp [hi] at hsat
  | setPrng => rfl

/-- No update clears `STATUS.SAT` (10_state.md R24). -/
theorem EffectStep.sat_sticky (h : EffectStep i s t) (hs : s.sat = true) : t.sat = true := by
  cases h with
  | writeRow => exact (s.setPlane_sat _ _).trans hs
  | writePixels => exact (s.setFrame_sat _ _).trans hs
  | noteSat => simp [hs]
  | setPrng => exact hs

/-- No update makes a written sample unwritten. -/
theorem EffectStep.unwritten {p : Plane} {k : Nat} (h : EffectStep i s t) (hk : memGet (t.plane p) k = none) :
    memGet (s.plane p) k = none := by
  cases h with
  | @writeRow p' r vs =>
    by_cases heq : p = p'
    · subst heq
      rw [State.memGet_writeRow] at hk
      split at hk
      · rename_i hrange
        simp only [Option.map_eq_none_iff, List.getElem?_eq_none_iff] at hk
        omega
      · exact hk
    · rwa [s.plane_writeRow_other p' p r vs heq] at hk
  | writePixels => simpa [State.writePixels] using hk
  | noteSat => exact hk
  | setPrng => exact hk

theorem Evolves.prngState_eq (h : Evolves i s t) (hi : drawsNoise i = false) : t.prngState = s.prngState :=
  h.keeps (P := fun u => u.prngState = s.prngState) (fun hstep hu => (hstep.prngState_eq hi).trans hu) rfl

theorem Evolves.dst_eq (h : Evolves i s t) (hi : i ≠ .fromyiq) : t.dst = s.dst :=
  h.keeps (P := fun u => u.dst = s.dst) (fun hstep hu => (hstep.dst_eq hi).trans hu) rfl

theorem Evolves.plane_eq {p : Plane} (h : Evolves i s t) (hp : writesPlane i p = false) : t.plane p = s.plane p :=
  h.keeps (P := fun u => u.plane p = s.plane p) (fun hstep hu => (hstep.plane_eq hp).trans hu) rfl

theorem Evolves.sat_eq (h : Evolves i s t) (hi : maySaturate i = false) : t.sat = s.sat :=
  h.keeps (P := fun u => u.sat = s.sat) (fun hstep hu => (hstep.sat_eq hi).trans hu) rfl

end Unchanged

section Updates

variable {i : Instr} {s u : State} {p : Plane} {r : Nat} {vs : List Int}

/-- A write of a row inside the plane shape, which the updates before it have not changed. -/
theorem Evolves.writeRow (h : Evolves i s u) (hp : writesPlane i p = true) (hr : r < s.plH.toNat)
    (hlen : vs.length ≤ s.plW.toNat) : Evolves i s (u.writeRow p r vs) :=
  h.tail (.writeRow hp (by rwa [h.plH_eq]) (by rwa [h.plW_eq]))

theorem Evolves.noteSat {b : Bool} (h : Evolves i s u) (hi : maySaturate i = true) : Evolves i s (u.noteSat b) :=
  h.tail (.noteSat hi)

theorem Evolves.setPrng {st : Word} (h : Evolves i s u) (hi : drawsNoise i = true) : Evolves i s (u.setPrng st) :=
  h.tail (.setPrng hi)

theorem Evolves.writeRowSat (h : Evolves i s u) (hp : writesPlane i p = true) (hi : maySaturate i = true)
    (hr : r < s.plH.toNat) (hlen : vs.length ≤ s.plW.toNat) : Evolves i s (u.writeRowSat p r vs) :=
  (h.writeRow hp hr (by simpa using hlen)).noteSat hi

end Updates

/-! ### Lengths of the rows that are written -/

@[simp] theorem length_lpFrom (a st : Int) (xs : List Int) : (lpFrom a st xs).length = xs.length := by
  induction xs generalizing st with
  | nil => rfl
  | cons x xs ih => simp [lpFrom, ih]

@[simp] theorem length_lpRow (a v0 : Int) (xs : List Int) : (lpRow a v0 xs).length = xs.length :=
  length_lpFrom a _ xs

@[simp] theorem length_lp3Row (a v0 : Int) (xs : List Int) : (lp3Row a v0 xs).length = xs.length := by
  simp [lp3Row]

@[simp] theorem length_hpRow (a v0 : Int) (xs : List Int) : (hpRow a v0 xs).length = xs.length := by
  simp [hpRow]

@[simp] theorem length_preemphRow (a m : Int) (xs : List Int) : (preemphRow a m xs).length = xs.length := by
  simp [preemphRow]

@[simp] theorem length_c2lFrom (a : Int) (k x : Nat) (ts : List (Int × Int × Int)) :
    (c2lFrom a k x ts).length = ts.length := by
  induction ts generalizing x with
  | nil => rfl
  | cons v ts ih => simp [c2lFrom, ih]

@[simp] theorem length_lumaRow (yo : List Int) : (lumaRow yo).length = yo.length := by simp [lumaRow]

@[simp] theorem length_chromaRow (yo : List Int) (k : Nat) (a : Int) : (chromaRow yo k a).length = yo.length := by
  simp [chromaRow]

@[simp] theorem length_decodedChroma (e : List Int) (shift : Nat) : (decodedChroma e shift).length = e.length := by
  simp [decodedChroma]

/-! ### Where a read stops (10_state.md R55) -/

/-- The fault names a sample of a plane or a byte of `SRC` that nothing has written. -/
def State.Unwritten (s : State) (e : Fault) : Prop :=
  (∃ p k, e = .unwrittenSample p k ∧ memGet (s.plane p) k = none) ∨
  (∃ k, e = .unwrittenByte .src k ∧ memGet s.src k = none)

theorem State.readRow_error {s : State} {p : Plane} {r : Nat} {e : Fault} (h : s.readRow p r = .error e) :
    s.Unwritten e := by
  unfold State.readRow at h
  split at h
  · rename_i e' hrun
    obtain rfl : e' = e := by simpa using h
    obtain ⟨j, -, hnone, rfl⟩ := memGetRun_error hrun
    exact .inl ⟨p, _, rfl, hnone⟩
  · cases h

/-- Reading pixels answers one for each column, or stops at a byte of `SRC` that nothing has written. -/
theorem State.readPixels_cases (s : State) (r c n : Nat) :
    (∃ ps, s.readPixels r c n = .ok ps ∧ ps.length = n) ∨ ∃ e, s.readPixels r c n = .error e ∧ s.Unwritten e := by
  induction n generalizing c with
  | zero => exact .inl ⟨[], rfl, rfl⟩
  | succ n ih =>
    cases hrun : memGetRun s.src (Fault.unwrittenByte .src) (s.srcIndex r c 0) 3 with
    | error e =>
      obtain ⟨j, -, hnone, rfl⟩ := memGetRun_error hrun
      exact .inr ⟨_, by simp [State.readPixels, hrun], .inr ⟨_, rfl, hnone⟩⟩
    | ok vs =>
      obtain ⟨b, g, rd, rfl⟩ : ∃ b g rd, vs = [b, g, rd] := List.length_eq_three.mp (memGetRun_ok hrun).1
      obtain ⟨ps, hps, hlen⟩ | ⟨e, he, hun⟩ := ih (c + 1)
      · exact .inl ⟨(b.toNat, g.toNat, rd.toNat) :: ps, by simp [State.readPixels, hrun, hps], by simp [hlen]⟩
      · exact .inr ⟨e, by simp [State.readPixels, hrun, he], hun⟩

/-- A location that nothing has written after some updates had no value before them. -/
theorem Evolves.unwritten {i : Instr} {s t : State} {e : Fault} (h : Evolves i s t) (he : t.Unwritten e) :
    s.Unwritten e := by
  obtain ⟨p, k, rfl, hk⟩ | ⟨k, rfl, hk⟩ := he
  · refine .inl ⟨p, k, rfl, ?_⟩
    exact h.keeps (P := fun u => memGet (u.plane p) k = none → memGet (s.plane p) k = none)
      (fun hstep hu hv => hu (hstep.unwritten hv)) id hk
  · exact .inr ⟨k, rfl, by rwa [h.src_eq] at hk⟩

/-! ### What an effect can answer -/

/-- An operation of a command answers a state reached by its elementary updates, or stops at a location that had no
value before it. -/
def RunsFrom (i : Instr) (s : State) : Except Fault State → Prop
  | .ok t => Evolves i s t
  | .error e => s.Unwritten e

/-- An operation after updates of the same command. -/
theorem RunsFrom.after {i : Instr} {s u : State} {x : Except Fault State} (hu : Evolves i s u) (h : RunsFrom i u x) :
    RunsFrom i s x := by
  cases x with
  | ok t => exact hu.trans h
  | error e => exact hu.unwritten h

/-- Doing an operation for each element, where the state is a part of what is carried from one to the next. -/
theorem forEach_map_runs {α σ : Type} {i : Instr} {f : α → σ → Except Fault σ} {xs : List α} {st : σ}
    (state : σ → State) (hf : ∀ x ∈ xs, ∀ u, Evolves i (state st) (state u) →
      RunsFrom i (state u) ((f x u).map state)) : RunsFrom i (state st) ((forEach f xs st).map state) := by
  induction xs generalizing st with
  | nil => exact .refl
  | cons x xs ih =>
    have hx := hf x List.mem_cons_self st .refl
    cases h : f x st with
    | error e =>
      rw [h] at hx
      simpa [forEach, h] using hx
    | ok u =>
      have hu : Evolves i (state st) (state u) := by rwa [h] at hx
      have hrest := ih (st := u) (fun y hy v hv => hf y (List.mem_cons_of_mem _ hy) v (hu.trans hv))
      simpa [forEach, h] using hrest.after hu

theorem forEach_runs {α : Type} {i : Instr} {f : α → State → Except Fault State} {xs : List α} {s : State}
    (hf : ∀ x ∈ xs, ∀ u, Evolves i s u → RunsFrom i u (f x u)) : RunsFrom i s (forEach f xs s) := by
  simpa using forEach_map_runs (st := s) id (fun x hx u hu => by simpa using hf x hx u hu)

/-! ### What an operation on one row can answer, stops included -/

section RowRuns

variable {i : Instr} {p : Plane} {g : List Int → List Int} {amp loss r : Nat} {cs : Int × Int} {s : State}

theorem mapRow_runs (hp : writesPlane i p = true) (hg : ∀ xs, (g xs).length = xs.length) (hr : r < s.plH.toNat) :
    RunsFrom i s (mapRow p g r s) := by
  unfold mapRow
  obtain ⟨e, hx⟩ | ⟨-, hx⟩ := s.readRow_cases p r
  · rw [hx]
    exact State.readRow_error hx
  · rw [hx]
    exact Evolves.writeRow .refl hp hr (by simp [hg])

theorem mapRowSat_runs (hp : writesPlane i p = true) (hi : maySaturate i = true)
    (hg : ∀ xs, (g xs).length = xs.length) (hr : r < s.plH.toNat) : RunsFrom i s (mapRowSat p g r s) := by
  unfold mapRowSat
  obtain ⟨e, hx⟩ | ⟨-, hx⟩ := s.readRow_cases p r
  · rw [hx]
    exact State.readRow_error hx
  · rw [hx]
    exact Evolves.writeRowSat .refl hp hi hr (by simp [hg])

/-- `TOYIQ` of one row, the planes having the width of the frame in `SRC`. -/
theorem toyiqRow_runs (hw : s.srcW = s.plW) (hr : r < s.plH.toNat) : RunsFrom .toyiq s (toyiqRow r s) := by
  unfold toyiqRow
  obtain ⟨ps, hps, hlen⟩ | ⟨e, he, hun⟩ := s.readPixels_cases r 0 s.srcW.toNat
  · rw [hps]
    have hlen : ps.length ≤ s.plW.toNat := by rw [hlen, hw]
    exact ((Evolves.writeRow .refl rfl hr (by simpa)).writeRow rfl hr (by simpa)).writeRow rfl hr (by simpa)
  · rw [he]
    exact hun

theorem fromyiqRow_runs (hr : r < s.plH.toNat) : RunsFrom .fromyiq s (fromyiqRow r s) := by
  unfold fromyiqRow
  obtain ⟨e, hy⟩ | ⟨-, hy⟩ := s.readRow_cases .y r
  · rw [hy]
    exact State.readRow_error hy
  obtain ⟨e, hi⟩ | ⟨-, hi⟩ := s.readRow_cases .i r
  · rw [hy, hi]
    exact State.readRow_error hi
  obtain ⟨e, hq⟩ | ⟨-, hq⟩ := s.readRow_cases .q r
  · rw [hy, hi, hq]
    exact State.readRow_error hq
  rw [hy, hi, hq]
  exact .single (.writePixels rfl hr (by simp))

theorem c2lRow_runs (hr : r < s.plH.toNat) : RunsFrom .c2l s (c2lRow r s) := by
  unfold c2lRow
  obtain ⟨e, hy⟩ | ⟨-, hy⟩ := s.readRow_cases .y r
  · rw [hy]
    exact State.readRow_error hy
  obtain ⟨e, hi⟩ | ⟨-, hi⟩ := s.readRow_cases .i r
  · rw [hy, hi]
    exact State.readRow_error hi
  obtain ⟨e, hq⟩ | ⟨-, hq⟩ := s.readRow_cases .q r
  · rw [hy, hi, hq]
    exact State.readRow_error hq
  rw [hy, hi, hq]
  exact ((Evolves.writeRowSat .refl rfl rfl hr (by simp)).writeRow rfl hr (by simp)).writeRow rfl hr (by simp)

theorem l2cRow_runs (hr : r < s.plH.toNat) : RunsFrom .l2c s (l2cRow r s) := by
  unfold l2cRow
  obtain ⟨e, hy⟩ | ⟨-, hy⟩ := s.readRow_cases .y r
  · rw [hy]
    exact State.readRow_error hy
  · rw [hy]
    exact (((Evolves.writeRow .refl rfl hr (by simp)).writeRow rfl hr (by simp)).writeRow rfl hr
      (by simp)).noteSat rfl

theorem noiseRow_runs (hp : writesPlane i p = true) (hsat : maySaturate i = true) (hdraws : drawsNoise i = true)
    (hr : r < s.plH.toNat) : RunsFrom i s (noiseRow p amp r s) := by
  unfold noiseRow
  obtain ⟨e, hx⟩ | ⟨-, hx⟩ := s.readRow_cases p r
  · rw [hx]
    exact State.readRow_error hx
  · rw [hx]
    exact (Evolves.writeRowSat .refl hp hsat hr (by simp)).setPrng hdraws

theorem cnoiseRow_runs (hr : r < s.plH.toNat) : RunsFrom .cnoise s (cnoiseRow amp r s) := by
  have hi : RunsFrom .cnoise s (noiseRow .i amp r s) := noiseRow_runs rfl rfl rfl hr
  unfold cnoiseRow
  cases h : noiseRow .i amp r s with
  | error e => rwa [h] at hi
  | ok t =>
    have ht : Evolves .cnoise s t := by rwa [h] at hi
    exact (noiseRow_runs rfl rfl rfl (by rwa [ht.plH_eq])).after ht

theorem rotateRow_runs (hr : r < s.plH.toNat) : RunsFrom .pnoise s (rotateRow cs r s) := by
  unfold rotateRow
  obtain ⟨e, hi⟩ | ⟨-, hi⟩ := s.readRow_cases .i r
  · rw [hi]
    exact State.readRow_error hi
  obtain ⟨e, hq⟩ | ⟨-, hq⟩ := s.readRow_cases .q r
  · rw [hi, hq]
    exact State.readRow_error hq
  rw [hi, hq]
  exact (Evolves.writeRowSat .refl rfl rfl hr (by simp)).writeRowSat rfl rfl hr (by simp)

/-- The state that `PNOISE` of one scanline answers, apart from the accumulator it hands on. -/
theorem pnoiseRow_map_fst (amp r : Nat) (st : State × Int) :
    (pnoiseRow amp r st).map Prod.fst =
      rotateRow (sincosAt st.1.cfg (walkStep st.1.cfg amp st.2 st.1.prngState).1) r
        (st.1.setPrng (walkStep st.1.cfg amp st.2 st.1.prngState).2) := by
  unfold pnoiseRow
  cases h : rotateRow (sincosAt st.1.cfg (walkStep st.1.cfg amp st.2 st.1.prngState).1) r
    (st.1.setPrng (walkStep st.1.cfg amp st.2 st.1.prngState).2) with
  | error e => simp [h, Except.map]
  | ok t => simp [h, Except.map]

theorem pnoiseRow_runs {acc : Int} (hr : r < s.plH.toNat) :
    RunsFrom .pnoise s ((pnoiseRow amp r (s, acc)).map Prod.fst) := by
  rw [pnoiseRow_map_fst]
  exact (rotateRow_runs (by simpa using hr)).after (Evolves.setPrng .refl rfl)

/-- The effect of `PNOISE` is its scanlines, apart from the accumulator. -/
theorem pnoiseEffect_eq_map (s : State) :
    pnoiseEffect s = (forEach (pnoiseRow s.pnoiseAmp.toNat) s.rows (s, 0)).map Prod.fst := by
  unfold pnoiseEffect
  cases forEach (pnoiseRow s.pnoiseAmp.toNat) s.rows (s, 0) <;> rfl

theorem dropoutRow_runs (hr : r < s.plH.toNat) : RunsFrom .dropout s (dropoutRow loss r s) := by
  cases h : dropoutRow loss r s with
  | error e => simp [dropoutRow] at h
  | ok t =>
    obtain ⟨u, rfl, ⟨-, rfl⟩ | ⟨-, rfl⟩⟩ := dropoutRow_ok h
    · exact ((Evolves.setPrng .refl rfl).writeRow rfl hr (by simp)).writeRow rfl hr (by simp)
    · exact Evolves.setPrng .refl rfl

/-- A row of the field lies inside the plane shape, which no update of the command changes. -/
theorem State.row_lt {u : State} (hr : r ∈ s.rows) (hu : Evolves i s u) : r < u.plH.toNat := by
  rw [hu.plH_eq]
  exact (State.mem_rows.mp hr).1

theorem forEach_rows_runs {f : Nat → State → Except Fault State}
    (hf : ∀ r u, r < u.plH.toNat → RunsFrom i u (f r u)) : RunsFrom i s (forEach f s.rows s) :=
  forEach_runs (fun r hr u hu => hf r u (State.row_lt hr hu))

theorem filterPlanes_runs {pm : BitVec 3} {op : Plane → Nat → State → Except Fault State}
    (hop : ∀ p r u, planeSelected pm p = true → r < u.plH.toNat → RunsFrom i u (op p r u)) :
    RunsFrom i s (filterPlanes pm op s) :=
  forEach_runs (fun p hp _ hu => forEach_runs (fun r hr v hv =>
    hop p r v (mem_maskPlanes.mp hp) (State.row_lt hr (hu.trans hv))))

end RowRuns

/-- The state in which the rows of a command begin: `TOYIQ` sets the plane shape first (40_colorspace.md R101). -/
def effectStart : Instr → State → State
  | .toyiq, s => s.takeSrcShape
  | _, s => s

theorem effectStart_of_ne_toyiq {i : Instr} (s : State) (hi : i ≠ .toyiq) : effectStart i s = s := by
  cases i with
  | toyiq => exact absurd rfl hi
  | _ => rfl

/-- What setting the plane shape leaves alone is the same where the rows begin. -/
theorem effectStart_kept {α : Type} (part : State → α) (i : Instr) {s : State}
    (h : part s.takeSrcShape = part s) : part (effectStart i s) = part s := by
  by_cases hi : i = .toyiq
  · subst hi
    exact h
  · rw [effectStart_of_ne_toyiq s hi]

/-- Everything the effect of a command can do: elementary updates of the command inside the plane shape, or a stop at
a location that nothing had written. -/
theorem effectOf_runs (i : Instr) (s : State) : RunsFrom i (effectStart i s) (effectOf i s) := by
  cases i with
  | nop => exact .refl
  | toyiq =>
    exact forEach_runs (fun r hr u hu => toyiqRow_runs ((hu.kept State.srcW rfl).trans hu.plW_eq.symm)
      (by rw [hu.plH_eq]; exact List.mem_range.mp hr))
  | fromyiq => exact forEach_rows_runs (fun _ _ hr => fromyiqRow_runs hr)
  | lpf pm => exact filterPlanes_runs (fun _ _ _ hp hr => mapRow_runs hp (length_lpRow _ _) hr)
  | hpf pm => exact filterPlanes_runs (fun _ _ _ hp hr => mapRowSat_runs hp rfl (length_hpRow _ _) hr)
  | lpf3 pm => exact filterPlanes_runs (fun _ _ _ hp hr => mapRow_runs hp (length_lp3Row _ _) hr)
  | preemph => exact forEach_rows_runs (fun _ _ hr => mapRowSat_runs rfl rfl (length_preemphRow _ _) hr)
  | c2l => exact forEach_rows_runs (fun _ _ hr => c2lRow_runs hr)
  | l2c => exact forEach_rows_runs (fun _ _ hr => l2cRow_runs hr)
  | lnoise => exact forEach_rows_runs (fun _ _ hr => noiseRow_runs rfl rfl rfl hr)
  | cnoise => exact forEach_rows_runs (fun _ _ hr => cnoiseRow_runs hr)
  | pnoise =>
    have hrows := forEach_map_runs (st := (s, (0 : Int))) Prod.fst
      (fun _ hr u hu => pnoiseRow_runs (amp := s.pnoiseAmp.toNat) (s := u.1) (acc := u.2) (State.row_lt hr hu))
    rwa [← pnoiseEffect_eq_map] at hrows
  | dropout => exact forEach_rows_runs (fun _ _ hr => dropoutRow_runs hr)

/-! ### What a command can answer -/

/-- Everything a command can do when it answers a next state: it is discarded, it faults, or it completes after the
updates of its effect, none if it is a no-op. -/
theorem exec_cases {i : Instr} {s t : State} (h : exec i s = .next t) :
    (s.errCode ≠ 0#8 ∧ t = s) ∨
    (s.errCode = 0#8 ∧ ∃ code, checkOf i s = some code ∧ t = s.raiseFault code (encode i)) ∨
    (s.errCode = 0#8 ∧ checkOf i s = none ∧ ∃ u, Evolves i (effectStart i s) u ∧ t = u.complete) := by
  rw [exec_eq_runCommand] at h
  obtain hdiscarded | hfaults | ⟨hclear, hcheck, hnoop, rfl⟩ | ⟨hclear, hcheck, -, u, hu, rfl⟩ := runCommand_cases h
  · exact .inl hdiscarded
  · exact .inr (.inl hfaults)
  · have hi : i ≠ .toyiq := fun heq => by simp [heq, isNoop] at hnoop
    exact .inr (.inr ⟨hclear, hcheck, s, by rw [effectStart_of_ne_toyiq s hi], rfl⟩)
  · have hruns := effectOf_runs i s
    rw [hu] at hruns
    exact .inr (.inr ⟨hclear, hcheck, u, hruns, rfl⟩)

/-- A command stops only where its effect does. -/
theorem exec_fault {i : Instr} {s : State} {e : Fault} (h : exec i s = .fault e) : effectOf i s = .error e := by
  rw [exec_eq_runCommand] at h
  unfold runCommand at h
  split at h
  · cases h
  split at h
  · cases h
  split at h
  · cases h
  split at h
  · cases h
  · rename_i e' he
    cases h
    exact he

end Sys2Proof.Machine
end

section
/-! PROOFS for 10_state.md, read off `exec_cases`: what a command leaves unchanged, the flag, the counter and the
stops. -/

namespace Sys2Proof.Machine

/-! ### Which registers and memories a command changes (10_state.md R21, R50) -/

/-- The first state with the registers and memories of the second that a command may change. -/
def State.withResults (s t : State) : State :=
  { s with
    sat := t.sat, errCode := t.errCode, errCmd := t.errCmd, cmdCnt := t.cmdCnt, plH := t.plH, plW := t.plW,
    prngState := t.prngState, dst := t.dst, planeY := t.planeY, planeI := t.planeI, planeQ := t.planeQ }

theorem withResults_effectStart (i : Instr) (s t : State) : (effectStart i s).withResults t = s.withResults t :=
  effectStart_kept (fun u => u.withResults t) i rfl

theorem Evolves.eq_withResults {i : Instr} {s t : State} (h : Evolves i s t) : t = s.withResults t := by
  rw [h.eq_withEffects]
  rfl

theorem exec_eq_withResults {i : Instr} {s t : State} (h : exec i s = .next t) : t = s.withResults t := by
  obtain ⟨-, rfl⟩ | ⟨-, code, -, rfl⟩ | ⟨-, -, u, hu, rfl⟩ := exec_cases h
  · rfl
  · rfl
  · calc u.complete = ((effectStart i s).withResults u).complete := by rw [← hu.eq_withResults]
      _ = (s.withResults u).complete := by rw [withResults_effectStart]
      _ = s.withResults u.complete := rfl

/-- A part of the state that faults, the count, the start of the effect and its updates leave alone reads the same
after the command. -/
theorem exec_kept {α : Type} {i : Instr} {s t : State} (part : State → α) (h : exec i s = .next t)
    (hfault : ∀ code w, part (s.raiseFault code w) = part s) (hcomplete : ∀ u : State, part u.complete = part u)
    (hstart : part (effectStart i s) = part s)
    (heffect : ∀ u, Evolves i (effectStart i s) u → part u = part (effectStart i s)) : part t = part s := by
  obtain ⟨-, rfl⟩ | ⟨-, code, -, rfl⟩ | ⟨-, -, u, hu, rfl⟩ := exec_cases h
  · rfl
  · exact hfault _ _
  · rw [hcomplete, heffect u hu, hstart]

section Frame

variable {i : Instr} {s t : State}

theorem exec_planeShape_eq (h : exec i s = .next t) (hi : i ≠ .toyiq) : (t.plH, t.plW) = (s.plH, s.plW) :=
  exec_kept (fun u => (u.plH, u.plW)) h (fun _ _ => rfl) (fun _ => rfl) (by rw [effectStart_of_ne_toyiq s hi])
    (fun _ hu => by rw [hu.plH_eq, hu.plW_eq])

theorem exec_prngState_eq (h : exec i s = .next t) (hi : drawsNoise i = false) : t.prngState = s.prngState :=
  exec_kept State.prngState h (fun _ _ => rfl) (fun _ => rfl) (effectStart_kept _ i rfl)
    (fun _ hu => hu.prngState_eq hi)

theorem exec_dst_eq (h : exec i s = .next t) (hi : i ≠ .fromyiq) : t.dst = s.dst :=
  exec_kept State.dst h (fun _ _ => rfl) (fun _ => rfl) (effectStart_kept _ i rfl) (fun _ hu => hu.dst_eq hi)

theorem exec_plane_eq {p : Plane} (h : exec i s = .next t) (hp : writesPlane i p = false) : t.plane p = s.plane p :=
  exec_kept (fun u => u.plane p) h (fun _ _ => rfl) (fun _ => rfl) (effectStart_kept (fun u => u.plane p) i rfl)
    (fun _ hu => hu.plane_eq hp)

theorem exec_sat_eq (h : exec i s = .next t) (hi : maySaturate i = false) : t.sat = s.sat :=
  exec_kept State.sat h (fun _ _ => rfl) (fun _ => rfl) (effectStart_kept _ i rfl) (fun _ hu => hu.sat_eq hi)

end Frame

/-- Settles O14: a command leaves what its permissions do not name, and only `TOYIQ` starts by setting the plane
shape. -/
theorem commandsChangeOnlyTheseRegistersAndMemories : Obligations.CommandsChangeOnlyTheseRegistersAndMemories := by
  unfold Obligations.CommandsChangeOnlyTheseRegistersAndMemories
  intro i s t h
  refine ⟨exec_eq_withResults h, fun hi => Prod.mk.inj (exec_planeShape_eq h hi), fun hl hc hp hd => ?_,
    exec_dst_eq h, fun hi => ?_, fun hi => ?_, fun hi => ?_⟩
  · have hdraws : drawsNoise i = false := by
      cases i with
      | lnoise => exact absurd rfl hl
      | cnoise => exact absurd rfl hc
      | pnoise => exact absurd rfl hp
      | dropout => exact absurd rfl hd
      | _ => rfl
    exact exec_prngState_eq h hdraws
  · have hnone : ∀ p, writesPlane i p = false := by
      rcases hi with rfl | rfl
      · exact fun _ => rfl
      · exact fun _ => rfl
    exact ⟨exec_plane_eq h (hnone .y), exec_plane_eq h (hnone .i), exec_plane_eq h (hnone .q)⟩
  · have hluma : ∀ p, p ≠ .y → writesPlane i p = false := by
      rcases hi with rfl | rfl
      · exact fun p hp => by simpa [writesPlane] using hp
      · exact fun p hp => by simpa [writesPlane] using hp
    exact ⟨exec_plane_eq h (hluma .i (by decide)), exec_plane_eq h (hluma .q (by decide))⟩
  · have hchroma : writesPlane i .y = false := by rcases hi with rfl | rfl | rfl <;> rfl
    exact exec_plane_eq h hchroma

/-! ### The flag `STATUS.SAT` (10_state.md R24, R49) -/

theorem exec_sat_sticky {i : Instr} {s t : State} (h : exec i s = .next t) (hs : s.sat = true) : t.sat = true := by
  obtain ⟨-, rfl⟩ | ⟨-, code, -, rfl⟩ | ⟨-, -, u, hu, rfl⟩ := exec_cases h
  · exact hs
  · exact hs
  · have hstart : (effectStart i s).sat = true := (effectStart_kept State.sat i rfl).trans hs
    exact hu.keeps (P := fun v => v.sat = true) EffectStep.sat_sticky hstart

/-- Settles O15: an update can set the flag and none clears it, and the six commands have no update that notes a
clamp. -/
theorem saturationFlagIsSticky : Obligations.SaturationFlagIsSticky := by
  unfold Obligations.SaturationFlagIsSticky
  intro i s t h
  refine ⟨exec_sat_sticky h, fun hi => exec_sat_eq h ?_⟩
  rcases hi with rfl | rfl | rfl | ⟨pm, rfl⟩ | ⟨pm, rfl⟩ | rfl <;> rfl

/-! ### The counter `CMDCNT` (10_state.md R27) -/

@[simp] theorem faultCode_ne_zero (code : FaultCode) : faultCode code ≠ 0#8 := by
  cases code <;> decide

/-- The three ways a command ends, as the fault code and the counter show them. -/
theorem exec_errCode_cmdCnt {i : Instr} {s t : State} (h : exec i s = .next t) :
    (s.errCode ≠ 0#8 ∧ t.errCode = s.errCode ∧ t.cmdCnt = s.cmdCnt) ∨
    (s.errCode = 0#8 ∧ t.errCode ≠ 0#8 ∧ t.cmdCnt = s.cmdCnt) ∨
    (s.errCode = 0#8 ∧ t.errCode = 0#8 ∧ t.cmdCnt = s.cmdCnt + 1#32) := by
  obtain ⟨hlatched, rfl⟩ | ⟨hclear, code, -, rfl⟩ | ⟨hclear, -, u, hu, rfl⟩ := exec_cases h
  · exact .inl ⟨hlatched, rfl, rfl⟩
  · exact .inr (.inl ⟨hclear, faultCode_ne_zero code, rfl⟩)
  · have herr : u.errCode = s.errCode := (hu.kept State.errCode rfl).trans (effectStart_kept _ i rfl)
    have hcnt : u.cmdCnt = s.cmdCnt := (hu.kept State.cmdCnt rfl).trans (effectStart_kept _ i rfl)
    exact .inr (.inr ⟨hclear, herr.trans hclear, congrArg (· + 1#32) hcnt⟩)

theorem issueIllegal_cmdCnt (w : Word) (s : State) : (issueIllegal w s).cmdCnt = s.cmdCnt := by
  unfold issueIllegal
  split <;> rfl

theorem State.writeReg_cmdCnt (s : State) (w : Word) (r : Reg) : (s.writeReg w r).cmdCnt = s.cmdCnt := by
  cases r with
  | status =>
    simp only [State.writeReg]
    split <;> rfl
  | _ => rfl

theorem regOffset_of_regAt {off : Nat} {r : Reg} (h : regAt off = some r) : regOffset r = off := by
  simpa using List.find?_some h

/-- A write of an illegal word to `CMD` (30_encoding.md R84). -/
theorem perform_write_illegal {w : Word} {e : Reject} (h : decode w = .error e) (s : State) :
    perform (.writeReg 0x04 w) s = .next (issueIllegal w s) := by
  have hreg : regAt 0x04 = some .cmd := rfl
  simp [perform, offsetOk, hostWriteReg, hreg, issue, h]

/-- A write of a register other than `CMD` leaves the counter. -/
theorem perform_write_other_cmdCnt {off : Nat} {w : Word} {s t : State} (hoff : off ≠ 0x04)
    (h : perform (.writeReg off w) s = .next t) : t.cmdCnt = s.cmdCnt := by
  cases perform_transaction h with
  | command _ hreg => exact absurd (regOffset_of_regAt hreg).symm hoff
  | writeReg => exact s.writeReg_cmdCnt w _
  | writeReserved => rfl

/-- Settles O16: of the three ways a command ends only completion counts. -/
theorem commandCounterCountsCompletions : Obligations.CommandCounterCountsCompletions := by
  unfold Obligations.CommandCounterCountsCompletions
  refine ⟨rfl, fun i s t h => ?_, fun w e s t hw h => ?_, fun off w s t => perform_write_other_cmdCnt⟩
  · obtain ⟨hlatched, -, hcnt⟩ | ⟨hclear, hfaulted, hcnt⟩ | ⟨hclear, hdone, hcnt⟩ := exec_errCode_cmdCnt h
    · exact ⟨fun hclear _ => absurd hclear hlatched, fun _ => hcnt⟩
    · exact ⟨fun _ hdone => absurd hdone hfaulted, fun _ => hcnt⟩
    · refine ⟨fun _ _ => ?_, fun hne => by simp [hclear, hdone] at hne⟩
      rw [hcnt, BitVec.toNat_add]
      rfl
  · rw [perform_write_illegal hw] at h
    cases h
    exact issueIllegal_cmdCnt w s

/-! ### Where a command stops (10_state.md R55) -/

/-- Settles O17: a command stops where its effect does, at a location with no value before it. -/
theorem commandsStopOnlyAtUnwrittenLocations : Obligations.CommandsStopOnlyAtUnwrittenLocations := by
  unfold Obligations.CommandsStopOnlyAtUnwrittenLocations
  refine fun i s => ⟨fun e h => ?_, fun e h => ?_⟩
  · rw [exec_eq_runCommand] at h
    exact runCommand_not_refused h
  · have hruns := effectOf_runs i s
    rw [exec_fault h] at hruns
    have hstart : (effectStart i s).Unwritten e = s.Unwritten e := effectStart_kept (fun u => u.Unwritten e) i rfl
    exact hstart.mp hruns

end Sys2Proof.Machine
end

section
/-! PROOFS for 10_state.md: every step keeps the state sound (R25, R26). A fault is raised with a word that can raise
it, since a word the decoder rejects is illegal; and every row an effect writes lies inside its memory, since the
check of the command has found the shape valid. -/

namespace Sys2Proof.Machine

/-! ### Rejected words are illegal (30_encoding.md R84) -/

theorem legalWord_encode (i : Instr) : legalWord (encode i) = true := by
  cases i with
  | nop => exact Laws.EncodeLegal.nop.2.1
  | toyiq => exact Laws.EncodeLegal.toyiq.2.1
  | fromyiq => exact Laws.EncodeLegal.fromyiq.2.1
  | lpf pm => exact (Laws.EncodeLegal.lpf pm).2.1
  | hpf pm => exact (Laws.EncodeLegal.hpf pm).2.1
  | lpf3 pm => exact (Laws.EncodeLegal.lpf3 pm).2.1
  | preemph => exact Laws.EncodeLegal.preemph.2.1
  | c2l => exact Laws.EncodeLegal.c2l.2.1
  | l2c => exact Laws.EncodeLegal.l2c.2.1
  | lnoise => exact Laws.EncodeLegal.lnoise.2.1
  | cnoise => exact Laws.EncodeLegal.cnoise.2.1
  | pnoise => exact Laws.EncodeLegal.pnoise.2.1
  | dropout => exact Laws.EncodeLegal.dropout.2.1

theorem decode_encode (i : Instr) : decode (encode i) = .ok i := by
  cases i with
  | lpf pm => revert pm; decide
  | hpf pm => revert pm; decide
  | lpf3 pm => revert pm; decide
  | _ => rfl

theorem toNat_encodeFields (op : BitVec 8) (pm : BitVec 3) :
    (encodeFields op pm).toNat = op.toNat + 256 * pm.toNat := by
  rw [encodeFields, BitVec.toNat_append, ← Nat.shiftLeft_add_eq_or_of_lt op.isLt, Nat.shiftLeft_eq,
    BitVec.toNat_append, BitVec.toNat_zero, Nat.zero_shiftLeft, Nat.zero_or]
  omega

/-- A word whose fields are those of a command is the word of that command. -/
theorem eq_encodeFields {w : Word} {op : BitVec 8} {m : Nat} (hm : m < 8) (h : w.toNat = op.toNat + 256 * m) :
    w = encodeFields op (BitVec.ofNat 3 m) := by
  apply BitVec.eq_of_toNat_eq
  rw [toNat_encodeFields, h, BitVec.toNat_ofNat, Nat.mod_eq_of_lt (by simpa using hm)]

/-- Every legal word is the word of a command. -/
theorem exists_encode_of_legalWord {w : Word} (h : legalWord w = true) : ∃ i, encode i = w := by
  simp only [legalWord, reservedClear, opDefined, maskAllowed, legalOps, maskedOps, Bool.and_eq_true, Bool.or_eq_true,
    beq_iff_eq, List.contains_iff_mem, List.mem_cons, List.not_mem_nil, or_false] at h
  obtain ⟨⟨hreserved, hop⟩, hmask⟩ := h
  have hplain : ∀ op : BitVec 8, w.toNat % 256 = op.toNat → w.toNat / 256 % 8 = 0 → encodeFields op 0#3 = w :=
    fun op ho hz => (eq_encodeFields (m := 0) (by decide) (by omega)).symm
  have hmasked : ∀ op : BitVec 8, w.toNat % 256 = op.toNat →
      encodeFields op (BitVec.ofNat 3 (w.toNat / 256)) = w :=
    fun op ho => (eq_encodeFields (by omega) (by omega)).symm
  rcases hop with ho | ho | ho | ho | ho | ho | ho | ho | ho | ho | ho | ho | ho
  · exact ⟨.nop, hplain _ ho (by omega)⟩
  · exact ⟨.toyiq, hplain _ ho (by omega)⟩
  · exact ⟨.fromyiq, hplain _ ho (by omega)⟩
  · exact ⟨.lpf _, hmasked _ ho⟩
  · exact ⟨.hpf _, hmasked _ ho⟩
  · exact ⟨.lpf3 _, hmasked _ ho⟩
  · exact ⟨.preemph, hplain _ ho (by omega)⟩
  · exact ⟨.c2l, hplain _ ho (by omega)⟩
  · exact ⟨.l2c, hplain _ ho (by omega)⟩
  · exact ⟨.lnoise, hplain _ ho (by omega)⟩
  · exact ⟨.cnoise, hplain _ ho (by omega)⟩
  · exact ⟨.pnoise, hplain _ ho (by omega)⟩
  · exact ⟨.dropout, hplain _ ho (by omega)⟩

theorem not_legalWord_of_decode_error {w : Word} {e : Reject} (h : decode w = .error e) : legalWord w = false := by
  rw [Bool.eq_false_iff]
  intro hlegal
  obtain ⟨i, rfl⟩ := exists_encode_of_legalWord hlegal
  rw [decode_encode] at h
  cases h

/-! ### What each check finds -/

section Checks

variable {i : Instr} {s : State} {code : FaultCode}

theorem planeCheck_none : planeCheck s = none ↔ s.planeShapeValid = true := by simp [planeCheck]

theorem planeCheck_some (h : planeCheck s = some code) : code = .invalidArg := by
  unfold planeCheck at h
  split at h
  · cases h
  · exact (Option.some.inj h).symm

theorem codecCheck_none : codecCheck s = none ↔ s.planeShapeValid = true ∧ s.phaseMode.toNat ≤ 3 := by
  rw [← Nat.not_lt]
  by_cases hvalid : s.planeShapeValid = true
  · simp [codecCheck, hvalid]
  · simp [codecCheck, hvalid]

theorem codecCheck_some (h : codecCheck s = some code) : code = .invalidArg := by
  unfold codecCheck at h
  split at h
  · split at h
    · exact (Option.some.inj h).symm
    · cases h
  · exact (Option.some.inj h).symm

theorem toyiqCheck_none : toyiqCheck s = none ↔ (s.srcH = s.dstH ∧ s.srcW = s.dstW) ∧ s.srcShapeValid = true := by
  by_cases hsame : s.srcH = s.dstH ∧ s.srcW = s.dstW
  · simp [toyiqCheck, hsame]
  · simp [toyiqCheck, hsame]

theorem fromyiqCheck_none : fromyiqCheck s = none ↔ (s.dstH = s.plH ∧ s.dstW = s.plW) ∧ s.planeShapeValid = true := by
  by_cases hsame : s.dstH = s.plH ∧ s.dstW = s.plW
  · simp [fromyiqCheck, hsame]
  · simp [fromyiqCheck, hsame]

theorem toyiqCheck_some (h : toyiqCheck s = some code) : code = .shape ∨ code = .invalidArg := by
  unfold toyiqCheck at h
  split at h
  · exact .inl (Option.some.inj h).symm
  · split at h
    · cases h
    · exact .inr (Option.some.inj h).symm

theorem fromyiqCheck_some (h : fromyiqCheck s = some code) : code = .shape ∨ code = .invalidArg := by
  unfold fromyiqCheck at h
  split at h
  · exact .inl (Option.some.inj h).symm
  · split at h
    · cases h
    · exact .inr (Option.some.inj h).symm

/-- A check finds a shape mismatch of the two converters, or an invalid argument of a command other than `NOP`. -/
theorem checkOf_some (h : checkOf i s = some code) :
    (code = .shape ∧ (i = .toyiq ∨ i = .fromyiq)) ∨ (code = .invalidArg ∧ i ≠ .nop) := by
  cases i with
  | nop => cases h
  | toyiq => exact (toyiqCheck_some h).imp (fun hc => ⟨hc, .inl rfl⟩) (fun hc => ⟨hc, by decide⟩)
  | fromyiq => exact (fromyiqCheck_some h).imp (fun hc => ⟨hc, .inr rfl⟩) (fun hc => ⟨hc, by decide⟩)
  | c2l => exact .inr ⟨codecCheck_some h, by decide⟩
  | l2c => exact .inr ⟨codecCheck_some h, by decide⟩
  | _ => exact .inr ⟨planeCheck_some h, by simp⟩

/-- Where its rows begin, a command that passed its check has a valid plane shape. -/
theorem planeShapeValid_of_checkOf (h : checkOf i s = none) (hi : i ≠ .nop) :
    (effectStart i s).planeShapeValid = true := by
  cases i with
  | nop => exact absurd rfl hi
  | toyiq => exact (toyiqCheck_none.mp h).2
  | fromyiq => exact (fromyiqCheck_none.mp h).2
  | c2l => exact (codecCheck_none.mp h).1
  | l2c => exact (codecCheck_none.mp h).1
  | _ => exact planeCheck_none.mp h

end Checks

/-! ### The fault registers (60_exceptions.md R200) -/

theorem encode_ne_zero {i : Instr} (hi : i ≠ .nop) : encode i ≠ 0#32 := by
  intro h
  have hdec := decode_encode i
  rw [h] at hdec
  exact hi (Except.ok.inj hdec).symm

/-- A command that faults leaves a code with a word that can raise it. -/
theorem faultRegsOk_of_checkOf {i : Instr} {s : State} {code : FaultCode} (h : checkOf i s = some code) :
    faultRegsOk (faultCode code) (encode i) = true := by
  obtain ⟨rfl, rfl | rfl⟩ | ⟨rfl, hi⟩ := checkOf_some h
  · decide
  · decide
  · simp [faultRegsOk, faultCode, legalWord_encode, encode_ne_zero hi]

/-! ### The sound state through the updates -/

section Sound

variable {i : Instr} {s t : State}

/-- A state with sound fault registers and the memories of a sound state is sound. -/
theorem Inv.of_memories_eq (hs : Inv s) (hfault : faultRegsOk t.errCode t.errCmd = true) (hcfg : t.cfg = s.cfg)
    (hsrc : t.src = s.src) (hdst : t.dst = s.dst) (hplane : ∀ p, t.plane p = s.plane p) : Inv t where
  faultRegs := hfault
  srcWf := by rw [hsrc]; exact hs.srcWf
  dstWf := by rw [hdst]; exact hs.dstWf
  planeWf p := by rw [hplane]; exact hs.planeWf p
  srcBelow := by rw [hcfg, hsrc]; exact hs.srcBelow
  dstBelow := by rw [hcfg, hdst]; exact hs.dstBelow
  planeBelow p := by rw [hcfg, hplane]; exact hs.planeBelow p

theorem Inv.frameWf (hs : Inv s) : ∀ f, memWf (s.frame f) = true
  | .src => hs.srcWf
  | .dst => hs.dstWf

theorem Inv.frameBelow (hs : Inv s) : ∀ f, memBelow (frameSize s.cfg) (s.frame f) = true
  | .src => hs.srcBelow
  | .dst => hs.dstBelow

/-- A plane may take any contents in canonical form and inside the plane. -/
theorem Inv.setPlane {p : Plane} {m : Memory 32} (hs : Inv s) (hwf : memWf m = true)
    (hbelow : memBelow (planeSize s.cfg) m = true) : Inv (s.setPlane p m) where
  faultRegs := by simpa using hs.faultRegs
  srcWf := by simpa using hs.srcWf
  dstWf := by simpa using hs.dstWf
  planeWf p' := by
    by_cases hp : p' = p
    · simpa [hp] using hwf
    · simpa [s.plane_setPlane_other p p' m hp] using hs.planeWf p'
  srcBelow := by simpa using hs.srcBelow
  dstBelow := by simpa using hs.dstBelow
  planeBelow p' := by
    by_cases hp : p' = p
    · simpa [hp] using hbelow
    · simpa [s.plane_setPlane_other p p' m hp] using hs.planeBelow p'

/-- A frame memory may take any contents in canonical form and inside the memory. -/
theorem Inv.setFrame {f : Frame} {m : Memory 8} (hs : Inv s) (hwf : memWf m = true)
    (hbelow : memBelow (frameSize s.cfg) m = true) : Inv (s.setFrame f m) where
  faultRegs := by simpa using hs.faultRegs
  srcWf := by cases f with | src => exact hwf | dst => exact hs.srcWf
  dstWf := by cases f with | src => exact hs.dstWf | dst => exact hwf
  planeWf p := by simpa using hs.planeWf p
  srcBelow := by cases f with | src => exact hbelow | dst => exact hs.srcBelow
  dstBelow := by cases f with | src => exact hs.dstBelow | dst => exact hbelow
  planeBelow p := by simpa using hs.planeBelow p

/-- A run of units within one row of a valid shape ends inside a memory of the largest shape. -/
theorem row_end_le {r n W hmax wmax H : Nat} (hr : r < H) (hH : H ≤ hmax) (hn : n ≤ W) (hW : W ≤ wmax) :
    r * W + n ≤ hmax * wmax := by
  calc r * W + n ≤ (r + 1) * W := by rw [Nat.succ_mul]; omega
    _ ≤ hmax * wmax := Nat.mul_le_mul (by omega) hW

theorem State.planeShapeValid_bounds (h : s.planeShapeValid = true) :
    s.plH.toNat ≤ s.cfg.hmax ∧ s.plW.toNat ≤ s.cfg.wmax := by
  simp only [State.planeShapeValid, validHeight, validWidth, Bool.and_eq_true, decide_eq_true_eq] at h
  exact ⟨h.1.2, h.2.2⟩

theorem Inv.writeRow {p : Plane} {r : Nat} {vs : List Int} (hs : Inv s) (hshape : s.planeShapeValid = true)
    (hr : r < s.plH.toNat) (hlen : vs.length ≤ s.plW.toNat) : Inv (s.writeRow p r vs) := by
  obtain ⟨hH, hW⟩ := State.planeShapeValid_bounds hshape
  refine hs.setPlane (memWf_memSetRun _ _ (hs.planeWf p)) (memBelow_memSetRun _ ?_ (hs.planeBelow p))
  rw [List.length_map]
  exact row_end_le hr hH hlen hW

/-- A row of pixels of `DST`, which has the width of the planes, is inside the memory. -/
theorem Inv.writePixels {r : Nat} {ps : List (Int × Int × Int)} (hs : Inv s) (hshape : s.planeShapeValid = true)
    (hdst : s.dstW = s.plW) (hr : r < s.plH.toNat) (hlen : ps.length ≤ s.plW.toNat) : Inv (s.writePixels r ps) := by
  obtain ⟨hH, hW⟩ := State.planeShapeValid_bounds hshape
  refine hs.setFrame (memWf_memSetRun _ _ hs.dstWf) (memBelow_memSetRun _ ?_ hs.dstBelow)
  have hend : r * s.plW.toNat + ps.length ≤ s.cfg.hmax * s.cfg.wmax := row_end_le hr hH hlen hW
  have hbytes : (ps.flatMap (fun px =>
      [BitVec.ofInt 8 px.1, BitVec.ofInt 8 px.2.1, BitVec.ofInt 8 px.2.2])).length = 3 * ps.length := by
    simp [List.length_flatMap, Nat.mul_comm]
  rw [hbytes, State.dstIndex, hdst, frameSize, Nat.mul_assoc]
  omega

theorem EffectStep.inv (h : EffectStep i s t) (hs : Inv s) (hshape : i ≠ .nop → s.planeShapeValid = true)
    (hdst : i = .fromyiq → s.dstW = s.plW) : Inv t := by
  cases h with
  | writeRow hp hr hlen =>
    have hi : i ≠ .nop := fun heq => by simp [heq, writesPlane] at hp
    exact hs.writeRow (hshape hi) hr hlen
  | writePixels hi hr hlen => exact hs.writePixels (hshape (by simp [hi])) (hdst hi) hr hlen
  | noteSat => exact hs.of_memories_eq hs.faultRegs rfl rfl rfl (fun _ => rfl)
  | setPrng => exact hs.of_memories_eq hs.faultRegs rfl rfl rfl (fun _ => rfl)

theorem Evolves.inv (h : Evolves i s t) (hs : Inv s) (hshape : i ≠ .nop → s.planeShapeValid = true)
    (hdst : i = .fromyiq → s.dstW = s.plW) : Inv t := by
  induction h with
  | refl => exact hs
  | @tail u v hbefore hlast ih =>
    have hu : Evolves i s u := hbefore
    refine hlast.inv ih (fun hi => ?_) (fun hi => ?_)
    · exact (hu.kept State.planeShapeValid rfl).trans (hshape hi)
    · rw [hu.plW_eq, hu.kept State.dstW rfl, hdst hi]

theorem Inv.effectStart (hs : Inv s) (i : Instr) : Inv (effectStart i s) := by
  by_cases hi : i = .toyiq
  · subst hi
    exact hs.of_memories_eq hs.faultRegs rfl rfl rfl (fun _ => rfl)
  · rwa [effectStart_of_ne_toyiq s hi]

/-! ### The sound state through commands and transactions -/

theorem Inv.raiseFault {code : FaultCode} {w : Word} (hs : Inv s) (h : faultRegsOk (faultCode code) w = true) :
    Inv (s.raiseFault code w) := hs.of_memories_eq h rfl rfl rfl (fun _ => rfl)

theorem exec_inv (h : exec i s = .next t) (hs : Inv s) : Inv t := by
  obtain ⟨-, rfl⟩ | ⟨-, code, hcheck, rfl⟩ | ⟨-, hcheck, u, hu, rfl⟩ := exec_cases h
  · exact hs
  · exact hs.raiseFault (faultRegsOk_of_checkOf hcheck)
  · have hinv : Inv u := by
      refine hu.inv (hs.effectStart i) (planeShapeValid_of_checkOf hcheck) (fun hi => ?_)
      subst hi
      exact (fromyiqCheck_none.mp hcheck).1.2
    exact hinv.of_memories_eq hinv.faultRegs rfl rfl rfl (fun _ => rfl)

theorem Inv.issueIllegal {w : Word} {e : Reject} (hs : Inv s) (h : decode w = .error e) : Inv (issueIllegal w s) := by
  unfold Machine.issueIllegal
  split
  · exact hs
  · exact hs.raiseFault (by simp [faultRegsOk, faultCode, not_legalWord_of_decode_error h])

/-- A write to `CMD` keeps the state sound, whether its word is legal or not. -/
theorem issue_inv {w : Word} (h : issue w s = .next t) (hs : Inv s) : Inv t := by
  unfold issue at h
  split at h
  · exact exec_inv h hs
  · rename_i e hdec
    cases h
    exact hs.issueIllegal hdec

/-- A register write stores nothing in the fault registers, except that one to `ERR` clears both. -/
theorem Inv.writeReg (hs : Inv s) (w : Word) (r : Reg) : Inv (s.writeReg w r) := by
  cases r with
  | err => exact hs.of_memories_eq rfl rfl rfl rfl (fun _ => rfl)
  | status =>
    simp only [State.writeReg]
    split
    · exact hs.of_memories_eq hs.faultRegs rfl rfl rfl (fun _ => rfl)
    · exact hs
  | _ => exact hs.of_memories_eq hs.faultRegs rfl rfl rfl (fun _ => rfl)

theorem Inv.respond (hs : Inv s) (v : HostValue) : Inv (s.respond v) :=
  hs.of_memories_eq hs.faultRegs rfl rfl rfl (fun _ => rfl)

/-- Empty memories are sound under every configuration. -/
theorem inv_afterReset (s : State) : Inv s.afterReset where
  faultRegs := rfl
  srcWf := rfl
  dstWf := rfl
  planeWf := fun | .y => rfl | .i => rfl | .q => rfl
  srcBelow := rfl
  dstBelow := rfl
  planeBelow := fun | .y => rfl | .i => rfl | .q => rfl

theorem Transaction.inv {op : HostOp} (h : Transaction s op t) (hs : Inv s) : Inv t := by
  cases h with
  | command hoff hreg hissue => exact issue_inv hissue hs
  | writeReg => exact hs.writeReg _ _
  | writeReserved => exact hs
  | readReg => exact hs.respond _
  | writeByte hk => exact hs.setFrame (memWf_memSet _ _ (hs.frameWf _)) (memBelow_memSet _ hk (hs.frameBelow _))
  | readByte => exact hs.respond _
  | writeSample hk => exact hs.setPlane (memWf_memSet _ _ (hs.planeWf _)) (memBelow_memSet _ hk (hs.planeBelow _))
  | readSample => exact hs.respond _
  | reset => exact inv_afterReset s

end Sound

/-- Settles O12: an idle core keeps its state, and every transaction of the host keeps it sound. -/
theorem everyStepKeepsTheStateSound : Obligations.EveryStepKeepsTheStateSound := by
  unfold Obligations.EveryStepKeepsTheStateSound
  intro s t hs h
  obtain ⟨-, rfl⟩ | ⟨op, rest, -, htrans⟩ := step_cases h
  · exact hs
  · exact htrans.inv (hs.of_memories_eq hs.faultRegs rfl rfl rfl (fun _ => rfl))

/-- Settles O11: the state after reset is the reset of itself, and a reset leaves empty memories. -/
theorem resetStateIsSound : Obligations.ResetStateIsSound := by
  unfold Obligations.ResetStateIsSound
  exact inv_afterReset State.reset

/-! ### Reset (10_state.md R54, R55) -/

theorem afterReset_readReg (s : State) (r : Reg) : s.afterReset.readReg r = State.reset.readReg r := by
  cases r with
  | _ => rfl

theorem afterReset_memories (s : State) :
    s.afterReset.src = [] ∧ s.afterReset.dst = [] ∧ ∀ p, s.afterReset.plane p = [] :=
  ⟨rfl, rfl, fun | .y => rfl | .i => rfl | .q => rfl⟩

/-- Settles O21: every register but `ID` is stored as 0 or computed as 0 from registers that are, and every memory is
the empty list. -/
theorem resetClearsRegistersAndMemories : Obligations.ResetClearsRegistersAndMemories := by
  unfold Obligations.ResetClearsRegistersAndMemories
  have hunwritten : ∀ s : State, (∀ k, memGet s.afterReset.src k = none ∧ memGet s.afterReset.dst k = none) ∧
      ∀ p k, memGet (s.afterReset.plane p) k = none := by
    intro s
    obtain ⟨hsrc, hdst, hplane⟩ := afterReset_memories s
    exact ⟨fun k => by simp [hsrc, hdst], fun p k => by simp [hplane]⟩
  refine ⟨fun r => ?_, (hunwritten State.reset).1, (hunwritten State.reset).2,
    fun s => ⟨s.afterReset, rfl, fun r => ⟨afterReset_readReg s r, hunwritten s⟩⟩⟩
  cases r with
  | _ => rfl

end Sys2Proof.Machine
end

section
/-! PROOFS for 10_state.md: what a command does not depend on. `SRC` and the four registers of the subcarrier codec
may be replaced under every command that does not read them (R50), and under the codec too where its phases, mode and
amplitude stay the same (R35, R37). -/

namespace Sys2Proof.Machine

/-! ### The inputs that few commands read -/

/-- The frame memory that only `TOYIQ` reads (10_state.md R50) and the registers that only the subcarrier codec reads
(30_encoding.md R83). -/
structure SpecialInputs where
  src : Memory 8
  fieldNo : BitVec 32
  phaseMode : BitVec 3
  phaseOffset : BitVec 32
  scAmpl : BitVec 16

/-- The special inputs a state has. -/
def State.specialInputs (s : State) : SpecialInputs :=
  ⟨s.src, s.fieldNo, s.phaseMode, s.phaseOffset, s.scAmpl⟩

/-- The state with the special inputs replaced. -/
def State.withInputs (s : State) (o : SpecialInputs) : State :=
  { s with
    src := o.src, fieldNo := o.fieldNo, phaseMode := o.phaseMode, phaseOffset := o.phaseOffset,
    scAmpl := o.scAmpl }

/-- Whether a command finds in a state what it would find under the replaced inputs. -/
structure InputsAgree (i : Instr) (o : SpecialInputs) (s : State) : Prop where
  src : i = .toyiq → o.src = s.src
  xi : i = .c2l ∨ i = .l2c → ∀ y, (s.withInputs o).xi y = s.xi y
  phaseMode : i = .c2l ∨ i = .l2c → o.phaseMode = s.phaseMode
  scAmpl : i = .c2l ∨ i = .l2c → o.scAmpl = s.scAmpl

/-- No operation of a command writes one of these inputs. -/
theorem inputsAgree_keptByCommands (i : Instr) (o : SpecialInputs) : KeptByCommands (InputsAgree i o) where
  setPlane p m hs := by cases p <;> exact ⟨hs.src, hs.xi, hs.phaseMode, hs.scAmpl⟩
  setDst m hs := ⟨hs.src, hs.xi, hs.phaseMode, hs.scAmpl⟩
  noteSat b hs := ⟨hs.src, hs.xi, hs.phaseMode, hs.scAmpl⟩
  setPrng st hs := ⟨hs.src, hs.xi, hs.phaseMode, hs.scAmpl⟩
  takeSrcShape hs := ⟨hs.src, hs.xi, hs.phaseMode, hs.scAmpl⟩
  raiseFault code w hs := ⟨hs.src, hs.xi, hs.phaseMode, hs.scAmpl⟩
  complete hs := ⟨hs.src, hs.xi, hs.phaseMode, hs.scAmpl⟩

/-! ### The operations under replaced inputs -/

section Operations

variable (s : State) (o : SpecialInputs)

@[simp] theorem readRow_withInputs (p : Plane) (r : Nat) : (s.withInputs o).readRow p r = s.readRow p r := by
  cases p <;> rfl

theorem writeRow_withInputs (p : Plane) (r : Nat) (vs : List Int) :
    (s.withInputs o).writeRow p r vs = (s.writeRow p r vs).withInputs o := by
  cases p <;> rfl

theorem writeRowSat_withInputs (p : Plane) (r : Nat) (vs : List Int) :
    (s.withInputs o).writeRowSat p r vs = (s.writeRowSat p r vs).withInputs o := by
  cases p <;> rfl

theorem readPixels_withInputs (h : o.src = s.src) (r c n : Nat) :
    (s.withInputs o).readPixels r c n = s.readPixels r c n := by
  have hsrc : (s.withInputs o).src = s.src := h
  induction n generalizing c with
  | zero => rfl
  | succ n ih =>
    simp only [State.readPixels, hsrc, ih]
    rfl

variable {p : Plane} {g : List Int → List Int} {amp loss r : Nat} {cs : Int × Int}

theorem mapRow_withInputs : mapRow p g r (s.withInputs o) = (mapRow p g r s).map (·.withInputs o) := by
  unfold mapRow
  rw [readRow_withInputs]
  cases s.readRow p r with
  | error e => rfl
  | ok xs => exact congrArg Except.ok (writeRow_withInputs s o p r _)

theorem mapRowSat_withInputs : mapRowSat p g r (s.withInputs o) = (mapRowSat p g r s).map (·.withInputs o) := by
  unfold mapRowSat
  rw [readRow_withInputs]
  cases s.readRow p r with
  | error e => rfl
  | ok xs => exact congrArg Except.ok (writeRowSat_withInputs s o p r _)

theorem toyiqRow_withInputs (h : InputsAgree .toyiq o s) :
    toyiqRow r (s.withInputs o) = (toyiqRow r s).map (·.withInputs o) := by
  have hpixels : (s.withInputs o).readPixels r 0 (s.withInputs o).srcW.toNat = s.readPixels r 0 s.srcW.toNat :=
    readPixels_withInputs s o (h.src rfl) r 0 _
  unfold toyiqRow
  rw [hpixels]
  cases s.readPixels r 0 s.srcW.toNat with
  | error e => rfl
  | ok ps => rfl

theorem fromyiqRow_withInputs : fromyiqRow r (s.withInputs o) = (fromyiqRow r s).map (·.withInputs o) := by
  simp only [fromyiqRow, readRow_withInputs]
  cases s.readRow .y r with
  | error e => rfl
  | ok ys =>
    cases s.readRow .i r with
    | error e => rfl
    | ok is =>
      cases s.readRow .q r with
      | error e => rfl
      | ok qs => rfl

theorem c2lRow_withInputs (h : InputsAgree .c2l o s) :
    c2lRow r (s.withInputs o) = (c2lRow r s).map (·.withInputs o) := by
  have hampl : (s.withInputs o).scAmpl = s.scAmpl := h.scAmpl (.inl rfl)
  simp only [c2lRow, readRow_withInputs, h.xi (.inl rfl), hampl]
  cases s.readRow .y r with
  | error e => rfl
  | ok ys =>
    cases s.readRow .i r with
    | error e => rfl
    | ok is =>
      cases s.readRow .q r with
      | error e => rfl
      | ok qs => rfl

theorem l2cRow_withInputs (h : InputsAgree .l2c o s) :
    l2cRow r (s.withInputs o) = (l2cRow r s).map (·.withInputs o) := by
  have hampl : (s.withInputs o).scAmpl = s.scAmpl := h.scAmpl (.inr rfl)
  simp only [l2cRow, readRow_withInputs, h.xi (.inr rfl), hampl]
  cases s.readRow .y r with
  | error e => rfl
  | ok yo => rfl

theorem noiseRow_withInputs : noiseRow p amp r (s.withInputs o) = (noiseRow p amp r s).map (·.withInputs o) := by
  unfold noiseRow
  rw [readRow_withInputs]
  cases s.readRow p r with
  | error e => rfl
  | ok xs => exact congrArg (fun t => Except.ok (State.setPrng t _)) (writeRowSat_withInputs s o p r _)

theorem cnoiseRow_withInputs : cnoiseRow amp r (s.withInputs o) = (cnoiseRow amp r s).map (·.withInputs o) := by
  unfold cnoiseRow
  rw [noiseRow_withInputs]
  cases noiseRow .i amp r s with
  | error e => rfl
  | ok t => exact noiseRow_withInputs t o

theorem rotateRow_withInputs : rotateRow cs r (s.withInputs o) = (rotateRow cs r s).map (·.withInputs o) := by
  simp only [rotateRow, readRow_withInputs]
  cases s.readRow .i r with
  | error e => rfl
  | ok is =>
    cases s.readRow .q r with
    | error e => rfl
    | ok qs => rfl

theorem pnoiseRow_withInputs (acc : Int) : pnoiseRow amp r (s.withInputs o, acc) =
    (pnoiseRow amp r (s, acc)).map (Prod.map (·.withInputs o) id) := by
  have hcfg : (s.withInputs o).cfg = s.cfg := rfl
  have hprng : (s.withInputs o).prngState = s.prngState := rfl
  simp only [pnoiseRow, hcfg, hprng]
  generalize walkStep s.cfg amp acc s.prngState = a
  have hrot : rotateRow (sincosAt s.cfg a.1) r ((s.withInputs o).setPrng a.2) =
      (rotateRow (sincosAt s.cfg a.1) r (s.setPrng a.2)).map (·.withInputs o) :=
    rotateRow_withInputs (s.setPrng a.2) o
  rw [hrot]
  cases rotateRow (sincosAt s.cfg a.1) r (s.setPrng a.2) with
  | error e => rfl
  | ok t => rfl

theorem dropoutRow_withInputs :
    dropoutRow loss r (s.withInputs o) = (dropoutRow loss r s).map (·.withInputs o) := by
  by_cases hlost : (draw s.cfg 100000 s.prngState).1 < loss
  · have hlost' : (draw (s.withInputs o).cfg 100000 (s.withInputs o).prngState).1 < loss := hlost
    simp only [dropoutRow, if_pos hlost, if_pos hlost']
    rfl
  · have hlost' : ¬ (draw (s.withInputs o).cfg 100000 (s.withInputs o).prngState).1 < loss := hlost
    simp only [dropoutRow, if_neg hlost, if_neg hlost']
    rfl

end Operations

/-! ### Commands under replaced inputs -/

/-- Where every single step commutes with a map of the states, doing it for each element does. -/
theorem forEach_commutes {α σ : Type} {f : α → σ → Except Fault σ} {F : σ → σ} {P : σ → Prop} {xs : List α} {st : σ}
    (hstep : ∀ x u, P u → f x (F u) = (f x u).map F) (hkeeps : ∀ x u u', P u → f x u = .ok u' → P u') (h0 : P st) :
    forEach f xs (F st) = (forEach f xs st).map F := by
  induction xs generalizing st with
  | nil => rfl
  | cons x xs ih =>
    simp only [forEach, hstep x st h0]
    cases h : f x st with
    | error e => rfl
    | ok u => exact ih (hkeeps x st u h0 h)

section Commands

variable {i : Instr} {s : State} {o : SpecialInputs}

theorem forEach_withInputs {α : Type} {f : α → State → Except Fault State} (xs : List α) (s : State)
    (hf : ∀ x u, f x (u.withInputs o) = (f x u).map (·.withInputs o)) :
    forEach f xs (s.withInputs o) = (forEach f xs s).map (·.withInputs o) :=
  forEach_commutes (F := (·.withInputs o)) (P := fun _ => True) (fun x u _ => hf x u) (fun _ _ _ _ _ => trivial)
    trivial

theorem filterPlanes_withInputs {op : Plane → Nat → State → Except Fault State} (pm : BitVec 3)
    (hop : ∀ p r u, op p r (u.withInputs o) = (op p r u).map (·.withInputs o)) :
    filterPlanes pm op (s.withInputs o) = (filterPlanes pm op s).map (·.withInputs o) :=
  forEach_withInputs _ s (fun p u => forEach_withInputs _ u (hop p))

/-- The effect of a command is the same under inputs that it does not read or that agree. -/
theorem effectOf_withInputs (h : InputsAgree i o s) :
    effectOf i (s.withInputs o) = (effectOf i s).map (·.withInputs o) := by
  have hkept := inputsAgree_keptByCommands i o
  cases i with
  | nop => rfl
  | toyiq =>
    exact forEach_commutes (F := (·.withInputs o)) (f := toyiqRow) (fun _ u hu => toyiqRow_withInputs u o hu)
      (fun _ _ _ hu => toyiqRow_keeps hkept hu) (hkept.takeSrcShape h)
  | fromyiq => exact forEach_withInputs _ s (fun _ u => fromyiqRow_withInputs u o)
  | lpf pm => exact filterPlanes_withInputs pm (fun _ _ u => mapRow_withInputs u o)
  | hpf pm => exact filterPlanes_withInputs pm (fun _ _ u => mapRowSat_withInputs u o)
  | lpf3 pm => exact filterPlanes_withInputs pm (fun _ _ u => mapRow_withInputs u o)
  | preemph => exact forEach_withInputs _ s (fun _ u => mapRowSat_withInputs u o)
  | c2l =>
    exact forEach_commutes (F := (·.withInputs o)) (f := c2lRow) (fun _ u hu => c2lRow_withInputs u o hu)
      (fun _ _ _ hu => c2lRow_keeps hkept hu) h
  | l2c =>
    exact forEach_commutes (F := (·.withInputs o)) (f := l2cRow) (fun _ u hu => l2cRow_withInputs u o hu)
      (fun _ _ _ hu => l2cRow_keeps hkept hu) h
  | lnoise => exact forEach_withInputs _ s (fun _ u => noiseRow_withInputs u o)
  | cnoise => exact forEach_withInputs _ s (fun _ u => cnoiseRow_withInputs u o)
  | pnoise =>
    have hrows : forEach (pnoiseRow s.pnoiseAmp.toNat) s.rows (s.withInputs o, 0) =
        (forEach (pnoiseRow s.pnoiseAmp.toNat) s.rows (s, 0)).map (Prod.map (·.withInputs o) id) :=
      forEach_commutes (F := Prod.map (·.withInputs o) id) (P := fun _ => True) (st := (s, 0))
        (fun _ u _ => pnoiseRow_withInputs u.1 o u.2) (fun _ _ _ _ _ => trivial) trivial
    have heffect : pnoiseEffect (s.withInputs o) =
        (forEach (pnoiseRow s.pnoiseAmp.toNat) s.rows (s.withInputs o, 0)).map Prod.fst := pnoiseEffect_eq_map _
    simp only [effectOf, heffect, hrows, pnoiseEffect_eq_map s]
    cases forEach (pnoiseRow s.pnoiseAmp.toNat) s.rows (s, 0) with
    | error e => rfl
    | ok st => rfl
  | dropout => exact forEach_withInputs _ s (fun _ u => dropoutRow_withInputs u o)

theorem checkOf_withInputs (h : InputsAgree i o s) : checkOf i (s.withInputs o) = checkOf i s := by
  have hcodec : i = .c2l ∨ i = .l2c → codecCheck (s.withInputs o) = codecCheck s := by
    intro hi
    have hmode : (s.withInputs o).phaseMode = s.phaseMode := h.phaseMode hi
    have hshape : (s.withInputs o).planeShapeValid = s.planeShapeValid := rfl
    rw [codecCheck, codecCheck, hmode, hshape]
  cases i with
  | c2l => exact hcodec (.inl rfl)
  | l2c => exact hcodec (.inr rfl)
  | _ => rfl

theorem isNoop_withInputs (h : InputsAgree i o s) : isNoop i (s.withInputs o) = isNoop i s := by
  cases i with
  | l2c => exact congrArg (· == 0#16) (h.scAmpl (.inr rfl))
  | _ => rfl

/-- A command answers the same, stops included, under inputs that it does not read or that agree; and it leaves them
as they are. -/
theorem exec_withInputs (h : InputsAgree i o s) : exec i (s.withInputs o) = mapNext (·.withInputs o) (exec i s) := by
  rw [exec_eq_runCommand, exec_eq_runCommand, checkOf_withInputs h, isNoop_withInputs h]
  by_cases hlatched : s.errCode = 0#8
  · have hlatched' : (s.withInputs o).errCode = 0#8 := hlatched
    cases hcheck : checkOf i s with
    | some code =>
      rw [runCommand_fault hlatched, runCommand_fault hlatched']
      rfl
    | none =>
      cases hnoop : isNoop i s with
      | true =>
        rw [runCommand_noop hlatched, runCommand_noop hlatched']
        rfl
      | false =>
        simp only [runCommand, hlatched, hlatched', effectOf_withInputs h]
        cases effectOf i s with
        | error e => rfl
        | ok t => rfl
  · have hlatched' : (s.withInputs o).errCode ≠ 0#8 := hlatched
    rw [runCommand_latched hlatched, runCommand_latched hlatched']
    rfl

/-- Two changes of a command's answer are the same if they are on the states it can answer. -/
theorem mapNext_congr {x : Host.Outcome State Fault Refusal} {f g : State → State}
    (h : ∀ t, x = .next t → f t = g t) : mapNext f x = mapNext g x := by
  cases x with
  | next t => exact congrArg Host.Outcome.next (h t rfl)
  | fault e => rfl
  | refused e => rfl

end Commands

/-! ### `SRC` (10_state.md R50) -/

/-- Settles O18: `SRC` is replaced and the codec registers keep their values, so the inputs agree. -/
theorem onlyToyiqDependsOnSrc : Obligations.OnlyToyiqDependsOnSrc := by
  unfold Obligations.OnlyToyiqDependsOnSrc
  intro i s m hi
  have hagree : InputsAgree i { s.specialInputs with src := m } s :=
    ⟨fun htoyiq => absurd htoyiq hi, fun _ _ => rfl, fun _ => rfl, fun _ => rfl⟩
  calc exec i { s with src := m } = mapNext (·.withInputs { s.specialInputs with src := m }) (exec i s) :=
        exec_withInputs hagree
    _ = mapNext (fun t => { t with src := m }) (exec i s) := mapNext_congr (fun t ht => by
      rw [exec_eq_withResults ht]
      rfl)

/-! ### `FIELDNO` and `PHASE_OFFSET` (10_state.md R35, R37) -/

/-- The phase of a scanline depends on the two registers modulo 4 only (42_subcarrier.md R141). -/
theorem xi_congr_mod_four {s t : State} (hmode : t.phaseMode = s.phaseMode)
    (hfield : t.fieldNo.toNat % 4 = s.fieldNo.toNat % 4)
    (hoffset : t.phaseOffset.toNat % 4 = s.phaseOffset.toNat % 4) (y : Nat) : t.xi y = s.xi y := by
  unfold State.xi
  rw [hmode]
  dsimp only
  split
  · exact hoffset
  · omega
  · have hsum : (t.fieldNo.toNat + y) % 4 = (s.fieldNo.toNat + y) % 4 := by omega
    rw [hsum]
    omega
  · unfold fmod
    omega

/-- Settles O20: replacing the two registers by values with the same remainders leaves every phase as it is. -/
theorem onlyTheFieldNumberModFourMatters : Obligations.OnlyTheFieldNumberModFourMatters := by
  unfold Obligations.OnlyTheFieldNumberModFourMatters
  intro i s fn off hfn hoff
  have hagree : InputsAgree i { s.specialInputs with fieldNo := fn, phaseOffset := off } s :=
    ⟨fun _ => rfl, fun _ => xi_congr_mod_four rfl hfn hoff, fun _ => rfl, fun _ => rfl⟩
  calc exec i { s with fieldNo := fn, phaseOffset := off } =
          mapNext (·.withInputs { s.specialInputs with fieldNo := fn, phaseOffset := off }) (exec i s) :=
        exec_withInputs hagree
    _ = mapNext (fun t => { t with fieldNo := fn, phaseOffset := off }) (exec i s) := mapNext_congr (fun t ht => by
      rw [exec_eq_withResults ht]
      rfl)

end Sys2Proof.Machine
end

section
/-! PROOFS for 20_memory.md: the step's equations (R68), the accesses the interface refuses (R65), the bytes of a
sample (R64), and the capacity of the memories (R63, R72). -/

namespace Sys2Proof.Machine

/-! ### The next transaction (20_memory.md R68) -/

theorem step_of_script_nil {s : State} (h : s.script = []) : step s = .next s := by
  simp only [step, stepScript, h]

theorem step_of_script_cons {s : State} {op : HostOp} {rest : List HostOp} (h : s.script = op :: rest) :
    step s = perform op { s with script := rest } := by
  simp only [step, stepScript, h]

/-- Settles O6, by the two cases of the script. -/
theorem stepPerformsTheNextTransaction : Obligations.StepPerformsTheNextTransaction := by
  unfold Obligations.StepPerformsTheNextTransaction
  exact ⟨fun s op rest => step_of_script_cons, fun s => step_of_script_nil⟩

/-! ### Accesses outside the interface (20_memory.md R65) -/

theorem offsetOk_iff {off : Nat} : offsetOk off = true ↔ off % 4 = 0 ∧ off ≤ 0xFC := by simp [offsetOk]

section Refused

variable {off k : Nat} (s : State)

theorem perform_writeReg_badOffset (w : Word) (h : ¬ offsetOk off = true) :
    perform (.writeReg off w) s = .refused (.badOffset off) := if_neg h

theorem perform_readReg_badOffset (h : ¬ offsetOk off = true) :
    perform (.readReg off) s = .refused (.badOffset off) := if_neg h

theorem perform_writeByte_outside (f : Frame) (v : Byte) (h : ¬ k < frameSize s.cfg) :
    perform (.writeByte f k v) s = .refused (.noSuchByte f k) := if_neg h

theorem perform_readByte_outside (f : Frame) (h : ¬ k < frameSize s.cfg) :
    perform (.readByte f k) s = .refused (.noSuchByte f k) := if_neg h

theorem perform_writeSample_outside (p : Plane) (v : Sample) (h : ¬ k < planeSize s.cfg) :
    perform (.writeSample p k v) s = .refused (.noSuchSample p k) := if_neg h

theorem perform_readSample_outside (p : Plane) (h : ¬ k < planeSize s.cfg) :
    perform (.readSample p k) s = .refused (.noSuchSample p k) := if_neg h

end Refused

/-- Settles O25: each kind of access is behind one guard, which an access outside the interface does not pass. -/
theorem accessesOutsideTheInterfaceAreRefused : Obligations.AccessesOutsideTheInterfaceAreRefused := by
  unfold Obligations.AccessesOutsideTheInterfaceAreRefused
  refine fun s => ⟨fun off w hoff => ?_, fun f k v hk => ?_, fun p k v hk => ?_⟩
  · have hbad : ¬ offsetOk off = true := by
      rw [offsetOk_iff]
      omega
    exact ⟨perform_writeReg_badOffset s w hbad, perform_readReg_badOffset s hbad⟩
  · have hout : ¬ k < frameSize s.cfg := Nat.not_lt.mpr hk
    exact ⟨perform_writeByte_outside s f v hout, perform_readByte_outside s f hout⟩
  · have hout : ¬ k < planeSize s.cfg := Nat.not_lt.mpr hk
    exact ⟨perform_writeSample_outside s p v hout, perform_readSample_outside s p hout⟩

/-! ### The bytes of a sample (20_memory.md R64) -/

/-- Byte `j` of sample `k` is the sample's bits `8j .. 8j+7`. -/
theorem State.planeByte_of_memGet {s : State} {p : Plane} {k : Nat} {v : Sample} (hv : memGet (s.plane p) k = some v)
    {j : Nat} (hj : j < 4) : s.planeByte p (4 * k + j) = some (v.extractLsb' (8 * j) 8) := by
  have hdiv : (4 * k + j) / 4 = k := by omega
  have hmod : (4 * k + j) % 4 = j := by omega
  rw [State.planeByte, hdiv, hmod, hv, Option.map_some]

/-- A sample is the little-endian sum of its four bytes. -/
theorem toNat_eq_sum_bytes (v : Sample) :
    v.toNat = (v.extractLsb' (8 * 0) 8).toNat + 256 * (v.extractLsb' (8 * 1) 8).toNat +
      65536 * (v.extractLsb' (8 * 2) 8).toNat + 16777216 * (v.extractLsb' (8 * 3) 8).toNat := by
  simp only [BitVec.extractLsb'_toNat, Nat.shiftRight_eq_div_pow]
  have hv := v.isLt
  omega

/-- Settles O26: the four bytes are the sample's own bits, and their sum is its value. -/
theorem planeSamplesAreLittleEndian : Obligations.PlaneSamplesAreLittleEndian := by
  unfold Obligations.PlaneSamplesAreLittleEndian
  intro s p k v hv
  exact ⟨_, _, _, _, State.planeByte_of_memGet hv (j := 0) (by decide), State.planeByte_of_memGet hv (by decide),
    State.planeByte_of_memGet hv (by decide), State.planeByte_of_memGet hv (by decide), toNat_eq_sum_bytes v⟩

/-! ### Capacity (20_memory.md R63, R72) -/

theorem le_hmax_of_validHeight {c : Config} {h : BitVec 16} (hv : validHeight c h = true) : h.toNat ≤ c.hmax := by
  simp only [validHeight, Bool.and_eq_true, decide_eq_true_eq] at hv
  exact hv.2

theorem le_wmax_of_validWidth {c : Config} {w : BitVec 16} (hv : validWidth c w = true) : w.toNat ≤ c.wmax := by
  simp only [validWidth, Bool.and_eq_true, decide_eq_true_eq] at hv
  exact hv.2

/-- The row-major index of a position inside a shape is below the shape's area. -/
theorem rowMajor_lt {r c H W : Nat} (hr : r < H) (hc : c < W) : r * W + c < H * W :=
  row_end_le hr le_rfl (Nat.succ_le_of_lt hc) le_rfl

/-- The byte index of a channel of a pixel inside a shape is below three times the shape's area. -/
theorem channelIndex_lt {r c ch H W : Nat} (hr : r < H) (hc : c < W) (hch : ch < 3) :
    (r * W + c) * 3 + ch < 3 * H * W := by
  have hpixel := rowMajor_lt hr hc
  rw [Nat.mul_assoc]
  omega

/-- A frame of a valid shape fits its memory. -/
theorem validShape_le_frameSize {c : Config} {h w : BitVec 16} (hh : validHeight c h = true)
    (hw : validWidth c w = true) : 3 * h.toNat * w.toNat ≤ frameSize c :=
  Nat.mul_le_mul (Nat.mul_le_mul_left 3 (le_hmax_of_validHeight hh)) (le_wmax_of_validWidth hw)

/-- Settles O27: a valid shape is at most the largest shape, and row-major indices stay inside their shape. -/
theorem validShapesFitTheMemories : Obligations.ValidShapesFitTheMemories := by
  unfold Obligations.ValidShapesFitTheMemories
  refine fun s => ⟨fun hplane => ?_, fun hsrc => ?_, fun hdstH hdstW => ?_⟩
  · obtain ⟨hH, hW⟩ := State.planeShapeValid_bounds hplane
    exact ⟨Nat.mul_le_mul hH hW, fun r hr c hc => rowMajor_lt hr hc⟩
  · obtain ⟨hH, hW⟩ := Bool.and_eq_true_iff.mp hsrc
    exact ⟨validShape_le_frameSize hH hW, fun r hr c hc ch hch => channelIndex_lt hr hc hch⟩
  · exact ⟨validShape_le_frameSize hdstH hdstW, fun r hr c hc ch hch => channelIndex_lt hr hc hch⟩

end Sys2Proof.Machine
end

section
/-! PROOFS for 30_encoding.md: what each row of the opcode table says about a word (R86); with it the decoder and the
encoder agree in both directions (R81), and the words the decoder takes are the legal ones (R84). Then the plane mask
(R80) and the registers that only the subcarrier codec reads (R83). -/

namespace Sys2Proof.Machine

/-! ### The three fields of a word (30_encoding.md R80) -/

/-- A word is its reserved bits, its plane mask and its operation code. -/
theorem word_eq_fields (w : Word) : w = (w.extractLsb' 11 21 ++ planeMaskOf w) ++ w.extractLsb' 0 8 := by
  have hhigh : w.extractLsb' 11 21 ++ planeMaskOf w = w.extractLsb' 8 24 :=
    BitVec.extractLsb'_append_extractLsb'_eq_extractLsb' rfl
  have hall : w.extractLsb' 8 24 ++ w.extractLsb' 0 8 = w.extractLsb' 0 32 :=
    BitVec.extractLsb'_append_extractLsb'_eq_extractLsb' rfl
  rw [hhigh, hall, BitVec.extractLsb'_eq_self]

theorem extractLsb'_encodeFields_reserved (op : BitVec 8) (pm : BitVec 3) :
    (encodeFields op pm).extractLsb' 11 21 = 0#21 :=
  (BitVec.extractLsb'_append_eq_of_le (by decide)).trans BitVec.extractLsb'_append_eq_left

/-- What a masked comparison says about a field. -/
theorem extractLsb'_and_eq {w mask value : Word} (h : w &&& mask = value) (start len : Nat) :
    w.extractLsb' start len &&& mask.extractLsb' start len = value.extractLsb' start len := by
  rw [← BitVec.extractLsb'_and, h]

/-- A word that agrees with an operation code under the mask that frees bits 10:8 has that code, no reserved bit, and
its own plane mask. -/
theorem eq_encodeFields_of_and_planeMaskFree {w : Word} {op : BitVec 8}
    (h : w &&& planeMaskFree = encodeFields op 0#3) : w = encodeFields op (planeMaskOf w) := by
  have hreserved : w.extractLsb' 11 21 = 0#21 := by
    calc w.extractLsb' 11 21 = w.extractLsb' 11 21 &&& planeMaskFree.extractLsb' 11 21 := (BitVec.and_allOnes).symm
      _ = (encodeFields op 0#3).extractLsb' 11 21 := extractLsb'_and_eq h 11 21
      _ = 0#21 := extractLsb'_encodeFields_reserved op 0#3
  have hop : w.extractLsb' 0 8 = op := by
    calc w.extractLsb' 0 8 = w.extractLsb' 0 8 &&& planeMaskFree.extractLsb' 0 8 := (BitVec.and_allOnes).symm
      _ = (encodeFields op 0#3).extractLsb' 0 8 := extractLsb'_and_eq h 0 8
      _ = op := BitVec.extractLsb'_append_eq_right
  calc w = (w.extractLsb' 11 21 ++ planeMaskOf w) ++ w.extractLsb' 0 8 := word_eq_fields w
    _ = encodeFields op (planeMaskOf w) := by rw [hreserved, hop, encodeFields]

/-! ### The rows of the opcode table (30_encoding.md R86) -/

/-- A row fixes every bit, and its value is the word of its command; or it frees the plane mask, and the word of its
command is its value with that mask put in. -/
theorem opcodeRow_encodes : ∀ r ∈ opcodeRows, ∀ pm,
    (r.mask = fullMask ∧ encode (r.build pm) = r.value) ∨
    (r.mask = planeMaskFree ∧ r.value = encodeFields (r.value.extractLsb' 0 8) 0#3 ∧
      encode (r.build pm) = encodeFields (r.value.extractLsb' 0 8) pm) := by
  decide

/-- A word that selects a row is the word of the command the row builds from it. -/
theorem encode_build_of_selects {r : OpcodeRow} {w : Word} (hr : r ∈ opcodeRows) (h : w &&& r.mask = r.value) :
    encode (r.build (planeMaskOf w)) = w := by
  obtain ⟨hmask, henc⟩ | ⟨hmask, hvalue, henc⟩ := opcodeRow_encodes r hr (planeMaskOf w)
  · rw [henc, ← h, hmask]
    exact BitVec.and_allOnes
  · rw [hmask, hvalue] at h
    rw [henc]
    exact (eq_encodeFields_of_and_planeMaskFree h).symm

/-- Every row compares the whole operation code. -/
theorem opcodeRow_mask_op : ∀ r ∈ opcodeRows, r.mask.extractLsb' 0 8 = BitVec.allOnes 8 := by decide

/-- The operation codes of the rows are all different. -/
theorem opcodeRows_op_nodup :
    opcodeRows.Pairwise (fun r r' => r.value.extractLsb' 0 8 ≠ r'.value.extractLsb' 0 8) := by
  decide

/-- A word that selects a row has the row's operation code. -/
theorem op_of_selects {r : OpcodeRow} {w : Word} (hr : r ∈ opcodeRows) (h : w &&& r.mask = r.value) :
    w.extractLsb' 0 8 = r.value.extractLsb' 0 8 := by
  rw [← extractLsb'_and_eq h 0 8, opcodeRow_mask_op r hr, BitVec.and_allOnes]

/-- Settles O3: a word in two rows would have two operation codes. -/
theorem opcodeRowsAreDisjoint : Obligations.OpcodeRowsAreDisjoint := by
  unfold Obligations.OpcodeRowsAreDisjoint
  refine opcodeRows_op_nodup.imp_of_mem (fun hr hr' hne w ⟨h, h'⟩ => hne ?_)
  rw [← op_of_selects hr h, op_of_selects hr' h']

/-! ### Decoder and encoder (30_encoding.md R81, R84) -/

/-- A word that decodes is the word of the command it decodes to. -/
theorem encode_of_decode {w : Word} {i : Instr} (h : decode w = .ok i) : encode i = w := by
  unfold decode at h
  split at h
  · rename_i r hfind
    cases h
    exact encode_build_of_selects (List.mem_of_find?_eq_some hfind) (by simpa using List.find?_some hfind)
  · cases h

theorem decode_eq_ok_iff {w : Word} {i : Instr} : decode w = .ok i ↔ encode i = w :=
  ⟨encode_of_decode, fun h => h ▸ decode_encode i⟩

theorem instr_wf (i : Instr) : i.wf = true := by
  cases i with
  | lpf pm => exact decide_eq_true pm.isLt
  | hpf pm => exact decide_eq_true pm.isLt
  | lpf3 pm => exact decide_eq_true pm.isLt
  | _ => rfl

/-- Settles O1: `decode_encode` one way; the other way, the row a word selects determines all its bits but the plane
mask, which the command keeps. -/
theorem decodeAndEncodeAgree : Obligations.DecodeAndEncodeAgree := by
  unfold Obligations.DecodeAndEncodeAgree
  exact ⟨fun i _ => decode_encode i, fun w i h => ⟨instr_wf i, encode_of_decode h⟩⟩

/-- Settles O4: the seven legal words are the words of their commands, and the other three select no row. -/
theorem sampleWordsDecode : Obligations.SampleWordsDecode := by
  unfold Obligations.SampleWordsDecode
  exact ⟨decode_encode .nop, decode_encode .toyiq, decode_encode (.lpf 6#3), decode_encode (.hpf 1#3),
    decode_encode (.lpf3 7#3), decode_encode .l2c, decode_encode .dropout, rfl, rfl, rfl⟩

/-! ### Legal words (30_encoding.md R84) -/

/-- The decoder refuses exactly the words that are not legal. -/
theorem exists_decode_error_iff {w : Word} : (∃ e, decode w = .error e) ↔ legalWord w = false := by
  refine ⟨fun ⟨e, h⟩ => not_legalWord_of_decode_error h, fun h => ?_⟩
  cases hdec : decode w with
  | error e => exact ⟨e, rfl⟩
  | ok i =>
    rw [← encode_of_decode hdec, legalWord_encode] at h
    cases h

/-- A word is not legal when one of the three clauses makes it illegal. -/
theorem legalWord_eq_false_iff {w : Word} : legalWord w = false ↔
    w.toNat / 2048 ≠ 0 ∨ w.toNat % 256 ∉ legalOps ∨ (w.toNat % 256 ∉ maskedOps ∧ w.toNat / 256 % 8 ≠ 0) := by
  simp only [legalWord, reservedClear, opDefined, maskAllowed, Bool.and_eq_false_iff, Bool.or_eq_false_iff,
    beq_eq_false_iff_ne, List.contains_eq_mem, decide_eq_false_iff_not, or_assoc]

/-- The words of the commands without a mask. -/
def plainWords : List Nat := [0x00, 0x01, 0x02, 0x13, 0x20, 0x21, 0x30, 0x31, 0x32, 0x33]

/-- The 34 words of commands. -/
theorem exists_encode_eq_iff {w : Word} : (∃ i, encode i = w) ↔
    w.toNat ∈ plainWords ∨
    ∃ m < 8, w.toNat = 0x10 + 0x100 * m ∨ w.toNat = 0x11 + 0x100 * m ∨ w.toNat = 0x12 + 0x100 * m := by
  constructor
  · rintro ⟨i, rfl⟩
    cases i with
    | lpf pm => exact .inr ⟨pm.toNat, pm.isLt, .inl (toNat_encodeFields _ pm)⟩
    | hpf pm => exact .inr ⟨pm.toNat, pm.isLt, .inr (.inl (toNat_encodeFields _ pm))⟩
    | lpf3 pm => exact .inr ⟨pm.toNat, pm.isLt, .inr (.inr (toNat_encodeFields _ pm))⟩
    | _ => exact .inl (by decide)
  · rintro (hplain | ⟨m, hm, h | h | h⟩)
    · have hlegal : ∀ n ∈ plainWords, legalWord (BitVec.ofNat 32 n) = true := by decide
      exact exists_encode_of_legalWord (by simpa using hlegal _ hplain)
    · exact ⟨.lpf (BitVec.ofNat 3 m), (eq_encodeFields hm h).symm⟩
    · exact ⟨.hpf (BitVec.ofNat 3 m), (eq_encodeFields hm h).symm⟩
    · exact ⟨.lpf3 (BitVec.ofNat 3 m), (eq_encodeFields hm h).symm⟩

/-- An illegal word raises its fault when none is latched (60_exceptions.md R201). -/
theorem issueIllegal_of_clear {s : State} (h : s.errCode = 0#8) (w : Word) :
    issueIllegal w s = s.raiseFault .illegalCmd w := by simp [issueIllegal, h]

/-- Settles O2: the decoder refuses the words that are not legal and takes the words of commands, and the issue of a
refused word raises the fault and nothing else. -/
theorem illegalWordsAreExactlyThoseOfTheRule : Obligations.IllegalWordsAreExactlyThoseOfTheRule := by
  unfold Obligations.IllegalWordsAreExactlyThoseOfTheRule
  refine fun w => ⟨exists_decode_error_iff.trans legalWord_eq_false_iff,
    (exists_congr fun _ => decode_eq_ok_iff).trans exists_encode_eq_iff, fun s e h hclear => ?_⟩
  rw [perform_write_illegal h, issueIllegal_of_clear hclear]
  rfl

/-! ### The plane mask (30_encoding.md R80) -/

theorem getLsbD_eq_true_iff (pm : BitVec 3) (k : Nat) : pm.getLsbD k = true ↔ pm.toNat / 2 ^ k % 2 = 1 := by
  simp [BitVec.getLsbD, Nat.testBit_eq_decide_div_mod_eq]

/-- Settles O29: bit `k` of the mask is 1 when its value divided by `2^k` is odd. -/
theorem planeMaskBits : Obligations.PlaneMaskBits := by
  unfold Obligations.PlaneMaskBits
  intro pm
  have hpm : pm.toNat < 8 := pm.isLt
  exact ⟨(getLsbD_eq_true_iff pm 0).trans (by omega), getLsbD_eq_true_iff pm 1,
    (getLsbD_eq_true_iff pm 2).trans (by omega)⟩

/-! ### The codec's own registers (30_encoding.md R83) -/

/-- Settles O19: the four registers are replaced and `SRC` stays, so the inputs agree for a command that is not of the
codec. -/
theorem onlyTheCodecReadsTheCodecParameters : Obligations.OnlyTheCodecReadsTheCodecParameters := by
  unfold Obligations.OnlyTheCodecReadsTheCodecParameters
  intro i s fn off mode a hc2l hl2c
  have hcodec : ¬ (i = .c2l ∨ i = .l2c) := not_or.mpr ⟨hc2l, hl2c⟩
  have hagree : InputsAgree i ⟨s.src, fn, mode, off, a⟩ s :=
    ⟨fun _ => rfl, fun hi => absurd hi hcodec, fun hi => absurd hi hcodec, fun hi => absurd hi hcodec⟩
  calc exec i { s with fieldNo := fn, phaseMode := mode, phaseOffset := off, scAmpl := a } =
          mapNext (·.withInputs ⟨s.src, fn, mode, off, a⟩) (exec i s) := exec_withInputs hagree
    _ = mapNext (fun t => { t with fieldNo := fn, phaseMode := mode, phaseOffset := off, scAmpl := a }) (exec i s) :=
        mapNext_congr (fun t ht => by
          rw [exec_eq_withResults ht]
          rfl)

end Sys2Proof.Machine
end

section
/-! PROOFS for 40_colorspace.md, the arithmetic of one pixel: the colour differences of R101 and what they make of a
grey pixel, the range of its three samples, and the round trip of R103. -/

namespace Sys2Proof.Machine

/-! ### Rounded division (00_scope.md R7) -/

/-- A multiple of the divisor divides exactly. -/
theorem rdiv_mul_self (v : Int) {n : Int} (hn : 0 < n) : rdiv (n * v) n = v := by
  obtain ⟨hlow, hhigh⟩ := rdiv_spec (n * v) hn
  have hle : rdiv (n * v) n < v + 1 := by nlinarith
  have hge : v < rdiv (n * v) n + 1 := by nlinarith
  omega

/-- A rounded quotient is within 1 of every value whose multiple is less than one and a half divisors away. -/
theorem abs_rdiv_sub_le_one {a v n : Int} (hn : 0 < n) (h : 2 * |a - n * v| < 3 * n) : |rdiv a n - v| ≤ 1 := by
  obtain ⟨hlow, hhigh⟩ := rdiv_spec a hn
  have hl : -(a - n * v) ≤ |a - n * v| := neg_le_abs _
  have hu : a - n * v ≤ |a - n * v| := le_abs_self _
  have hle : rdiv a n < v + 2 := by nlinarith
  have hge : v < rdiv a n + 2 := by nlinarith
  exact abs_le.mpr ⟨by omega, by omega⟩

/-- A rounded quotient is no larger than an integer bound on the exact one. -/
theorem abs_rdiv_le {a b n : Int} (hn : 0 < n) (h : |a| ≤ n * b) : |rdiv a n| ≤ b := by
  obtain ⟨hlow, hhigh⟩ := rdiv_spec a hn
  obtain ⟨hl, hu⟩ := abs_le.mp h
  have hle : rdiv a n < b + 1 := by nlinarith
  have hge : -b < rdiv a n + 1 := by nlinarith
  exact abs_le.mpr ⟨by omega, by omega⟩

/-- Clipping brings a value no further from a byte. -/
theorem abs_clip8_sub_le (v : Int) {b : Int} (h0 : 0 ≤ b) (h255 : b ≤ 255) : |clip8 v - b| ≤ |v - b| := by
  unfold clip8
  split
  · exact abs_le_abs_of_nonpos (by omega) (by omega)
  · split
    · exact abs_le_abs_of_nonneg (by omega) (by omega)
    · exact le_rfl

/-! ### Grey pixels (40_colorspace.md R101) -/

/-- Settles O35: the luma sum of a grey pixel is `100 v`, so both colour differences are 0. -/
theorem greyHasNoChroma : Obligations.GreyHasNoChroma := by
  unfold Obligations.GreyHasNoChroma
  intro c v
  have hsum : lumaSum v v v = 100 * v := by unfold lumaSum; ring
  have hluma : rdiv (256 * (100 * v)) 100 = 256 * v := by
    rw [mul_left_comm]
    exact rdiv_mul_self (256 * v) (by decide)
  have hzero : rdiv 0 10000 = 0 := rfl
  simp only [toYiq, hsum, hluma, sub_self, mul_zero, add_zero, hzero]

/-! ### The range of the samples (10_state.md R49) -/

/-- The value of a byte. -/
def IsByteValue (v : Int) : Prop := 0 ≤ v ∧ v ≤ 255

/-- A chroma sample is a 32-bit value when the two constants meet the bound of `Config.wf` (log 10). -/
theorem chroma_range {kb kr b g r : Int} (hk : kb.natAbs + kr.natAbs ≤ 3000000) (hb : IsByteValue b)
    (hg : IsByteValue g) (hr : IsByteValue r) :
    |rdiv (256 * (kb * (100 * b - lumaSum b g r) + kr * (100 * r - lumaSum b g r))) 10000| ≤ sampleMax := by
  obtain ⟨hb0, hb1⟩ := hb
  obtain ⟨hg0, hg1⟩ := hg
  obtain ⟨hr0, hr1⟩ := hr
  have hdb : |100 * b - lumaSum b g r| ≤ 25500 := by
    unfold lumaSum
    exact abs_le.mpr ⟨by omega, by omega⟩
  have hdr : |100 * r - lumaSum b g r| ≤ 25500 := by
    unfold lumaSum
    exact abs_le.mpr ⟨by omega, by omega⟩
  have hk' : |kb| + |kr| ≤ 3000000 := by rw [Int.abs_eq_natAbs, Int.abs_eq_natAbs]; omega
  refine abs_rdiv_le (by decide) ?_
  generalize 100 * b - lumaSum b g r = db at *
  generalize 100 * r - lumaSum b g r = dr at *
  have hsum : |kb * db + kr * dr| ≤ (|kb| + |kr|) * 25500 := by
    calc |kb * db + kr * dr| ≤ |kb * db| + |kr * dr| := abs_add_le _ _
      _ = |kb| * |db| + |kr| * |dr| := by rw [abs_mul, abs_mul]
      _ ≤ |kb| * 25500 + |kr| * 25500 := by gcongr
      _ = (|kb| + |kr|) * 25500 := by ring
  rw [abs_mul, show |(256 : Int)| = 256 from rfl]
  unfold sampleMax
  omega

theorem luma_range {b g r : Int} (hb : IsByteValue b) (hg : IsByteValue g) (hr : IsByteValue r) :
    |rdiv (256 * lumaSum b g r) 100| ≤ sampleMax := by
  obtain ⟨hb0, hb1⟩ := hb
  obtain ⟨hg0, hg1⟩ := hg
  obtain ⟨hr0, hr1⟩ := hr
  refine abs_rdiv_le (by decide) ?_
  unfold lumaSum sampleMax
  exact abs_le.mpr ⟨by omega, by omega⟩

/-! ### The round trip (40_colorspace.md R103) -/

/-- A channel comes back within 1 when its numerator is less than one and a half divisors from the exact one. -/
theorem abs_channel_sub_le_one {a v : Int} (h0 : 0 ≤ v) (h255 : v ≤ 255) (h : |a - 256000 * v| < 384000) :
    |clip8 (rdiv a 256000) - v| ≤ 1 :=
  (abs_clip8_sub_le _ h0 h255).trans (abs_rdiv_sub_le_one (by decide) (by omega))

/-- Settles O36: the three roundings move the numerator of each channel by less than its divisor, and so do the
three decimals of the inverse matrix. -/
theorem pixelRoundTripWithinOne : Obligations.PixelRoundTripWithinOne := by
  unfold Obligations.PixelRoundTripWithinOne
  intro b g r hb0 hb1 hg0 hg1 hr0 hr1
  obtain ⟨hy, hy'⟩ := rdiv_spec (256 * lumaSum b g r) (b := 100) (by decide)
  obtain ⟨hi, hi'⟩ := rdiv_spec
    (256 * (-27 * (100 * b - lumaSum b g r) + 74 * (100 * r - lumaSum b g r))) (b := 10000) (by decide)
  obtain ⟨hq, hq'⟩ := rdiv_spec
    (256 * (41 * (100 * b - lumaSum b g r) + 48 * (100 * r - lumaSum b g r))) (b := 10000) (by decide)
  simp only [toYiq, fromYiq, referenceConfig]
  generalize rdiv (256 * lumaSum b g r) 100 = y at *
  generalize rdiv (256 * (-27 * (100 * b - lumaSum b g r) + 74 * (100 * r - lumaSum b g r))) 10000 = i at *
  generalize rdiv (256 * (41 * (100 * b - lumaSum b g r) + 48 * (100 * r - lumaSum b g r))) 10000 = q at *
  unfold lumaSum at *
  have hblue : |1000 * y + -1106 * i + 1703 * q - 256000 * b| < 384000 := abs_lt.mpr ⟨by omega, by omega⟩
  have hgreen : |1000 * y + -272 * i + -647 * q - 256000 * g| < 384000 := abs_lt.mpr ⟨by omega, by omega⟩
  have hred : |1000 * y + 956 * i + 621 * q - 256000 * r| < 384000 := abs_lt.mpr ⟨by omega, by omega⟩
  exact ⟨abs_channel_sub_le_one hb0 hb1 hblue, abs_channel_sub_le_one hg0 hg1 hgreen,
    abs_channel_sub_le_one hr0 hr1 hred⟩

end Sys2Proof.Machine
end

section
/-! PROOFS for 40_colorspace.md, one row at a time: a command that does its rows in order completes with every row it
did as that row's own operation left it. First the rule for the rows done so far, then what a plane and `DST` hold
after one more row, and what a command answers that passes its check or fails it. -/

namespace Sys2Proof.Machine

/-! ### The rows done so far -/

/-- Doing an operation for each element completes where it answers on every element after those before it; what it
establishes for the elements done so far holds in the end for all. -/
theorem forEach_completes {α σ : Type} {f : α → σ → Except Fault σ} {P : List α → σ → Prop} {xs : List α} {st : σ}
    (hstep : ∀ done x rest, xs = done ++ x :: rest → ∀ u, P done u → ∃ u', f x u = .ok u' ∧ P (done ++ [x]) u')
    (h0 : P [] st) : ∃ st', forEach f xs st = .ok st' ∧ P xs st' := by
  induction xs generalizing st P with
  | nil => exact ⟨st, rfl, h0⟩
  | cons x xs ih =>
    obtain ⟨u, hu, hPu⟩ := hstep [] x xs rfl st h0
    obtain ⟨st', hst', hPst'⟩ := ih (P := fun done => P (x :: done))
      (fun done y rest hxs => hstep (x :: done) y rest (congrArg (x :: ·) hxs)) hPu
    exact ⟨st', by simpa [forEach, hu] using hst', hPst'⟩

/-! ### A plane after one more row -/

section Rows

variable {rows : List Nat} {s t u : State} {p : Plane} {f : Nat → Nat → Int} {r : Nat} {vs : List Int}

theorem State.sampleAt_congr (hplane : t.plane p = s.plane p) (hW : t.plW = s.plW) (r c : Nat) :
    t.sampleAt p r c = s.sampleAt p r c := by
  simp only [State.sampleAt, State.planeIndex, hplane, hW]

theorem State.val_congr (hplane : t.plane p = s.plane p) (hW : t.plW = s.plW) (r c : Nat) :
    t.val p r c = s.val p r c := by
  simp only [State.val, State.sampleAt_congr hplane hW]

theorem State.rowReadable_congr (hplane : t.plane p = s.plane p) (hW : t.plW = s.plW) (r : Nat) :
    t.rowReadable p r = s.rowReadable p r := by
  simp only [State.rowReadable, State.sampleAt_congr hplane hW, hW]

theorem State.rowReadable_of_fieldReadable (h : s.fieldReadable p = true) (hr : r ∈ s.rows) :
    s.rowReadable p r = true := List.all_eq_true.mp h r hr

/-- An index is in the run of a row exactly when it is the index of one of the row's samples. -/
theorem planeIndex_run_iff {k : Nat} :
    (s.planeIndex r 0 ≤ k ∧ k < s.planeIndex r 0 + s.plW.toNat) ↔ ∃ c < s.plW.toNat, k = s.planeIndex r c := by
  unfold State.planeIndex
  exact ⟨fun h => ⟨k - r * s.plW.toNat, by omega, by omega⟩, fun ⟨c, hc, hk⟩ => by omega⟩

/-- Writing a row leaves every index outside the row alone. -/
theorem State.memGet_writeRow_outside {k : Nat} (hlen : vs.length = s.plW.toNat)
    (hk : ∀ c < s.plW.toNat, k ≠ s.planeIndex r c) :
    memGet ((s.writeRow p r vs).plane p) k = memGet (s.plane p) k := by
  rw [State.memGet_writeRow, hlen, if_neg (fun hrun => ?_)]
  obtain ⟨c, hc, hkc⟩ := planeIndex_run_iff.mp hrun
  exact hk c hc hkc

/-- A written row holds the values, where they are in the range of a sample. -/
theorem State.sampleAt_writeRow {c : Nat} (hvs : vs = (List.range s.plW.toNat).map (f r)) (hc : c < s.plW.toNat)
    (hrange : sampleMin ≤ f r c ∧ f r c ≤ sampleMax) : (s.writeRow p r vs).sampleAt p r c = some (f r c) := by
  have hW : (s.writeRow p r vs).plW = s.plW := s.setPlane_plW p _
  have hlen : vs.length = s.plW.toNat := by simp [hvs]
  have hoff : s.planeIndex r c - s.planeIndex r 0 = c := by unfold State.planeIndex; omega
  have hv : vs[c]? = some (f r c) := by simp [hvs, hc]
  have hindex : (s.writeRow p r vs).planeIndex r c = s.planeIndex r c := by simp only [State.planeIndex, hW]
  rw [State.sampleAt, hindex, State.memGet_writeRow, hlen, if_pos (planeIndex_run_iff.mpr ⟨c, hc, rfl⟩), hoff, hv]
  simpa using toInt_ofInt_of_range hrange.1 hrange.2

theorem RowsBecome.nil (s : State) (p : Plane) (f : Nat → Nat → Int) (h : t.plane p = s.plane p) :
    RowsBecome [] s t p f := ⟨by simp, by simp [h]⟩

/-- What the rows of a plane hold depends on that plane and the width alone. -/
theorem RowsBecome.congr (h : RowsBecome rows s t p f) (hplane : u.plane p = t.plane p) (hW : u.plW = t.plW) :
    RowsBecome rows s u p f := by
  unfold RowsBecome at h ⊢
  simpa only [State.sampleAt_congr hplane hW, State.planeIndex, hplane, hW] using h

/-- One more row is written with the values that it is to hold. -/
theorem RowsBecome.writeRow (h : RowsBecome rows s t p f) (hvs : vs = (List.range t.plW.toNat).map (f r))
    (hrange : ∀ c < t.plW.toNat, sampleMin ≤ f r c ∧ f r c ≤ sampleMax) :
    RowsBecome (rows ++ [r]) s (t.writeRow p r vs) p f := by
  obtain ⟨hrows, houtside⟩ := h
  have hW : (t.writeRow p r vs).plW = t.plW := t.setPlane_plW p _
  have hlen : vs.length = t.plW.toNat := by simp [hvs]
  have hindex : ∀ r' c, (t.writeRow p r vs).planeIndex r' c = t.planeIndex r' c := by
    intro r' c
    simp only [State.planeIndex, hW]
  simp only [RowsBecome, hW, hindex]
  refine ⟨fun r' hr' c hc => ?_, fun k hk => ?_⟩
  · by_cases heq : r' = r
    · subst heq
      exact State.sampleAt_writeRow hvs hc (hrange c hc)
    · have hne : ∀ c' < t.plW.toNat, t.planeIndex r' c ≠ t.planeIndex r c' :=
        fun c' hc' hk => heq (planeIndex_inj hc hc' hk).1
      have hmem : r' ∈ rows := by simpa [heq] using hr'
      rw [← hrows r' hmem c hc, State.sampleAt, State.sampleAt, hindex, State.memGet_writeRow_outside hlen hne]
  · rw [State.memGet_writeRow_outside hlen (hk r (by simp))]
    exact houtside k (fun r' hr' => hk r' (by simp [hr']))

/-- The rows of the three planes that a command computes from one scanline. -/
def State.writeRows (s : State) (r : Nat) (vs : Plane → List Int) : State :=
  ((s.writeRow .y r (vs .y)).writeRow .i r (vs .i)).writeRow .q r (vs .q)

/-- Of the three rows, the one of a plane is what that plane takes. -/
theorem State.plane_writeRows (s : State) (r : Nat) (vs : Plane → List Int) (p : Plane) :
    (s.writeRows r vs).plane p = (s.writeRow p r (vs p)).plane p := by
  cases p <;> rfl

/-- One more scanline is written with the values that the three planes are to hold. -/
theorem RowsBecome.writeRows {vs : Plane → List Int} (h : RowsBecome rows s t p f)
    (hvs : vs p = (List.range t.plW.toNat).map (f r))
    (hrange : ∀ c < t.plW.toNat, sampleMin ≤ f r c ∧ f r c ≤ sampleMax) :
    RowsBecome (rows ++ [r]) s (t.writeRows r vs) p f :=
  (h.writeRow hvs hrange).congr (t.plane_writeRows r vs p) (t.setPlane_plW p _).symm

end Rows

/-! ### `DST` after one more row -/

section Pixels

variable {rows : List Nat} {s t : State} {f : Nat → Nat → Int × Int × Int} {r : Nat} {ps : List (Int × Int × Int)}

/-- The bytes of a pixel in the order of the frame memories (20_memory.md R62). -/
def pixelBytes (px : Int × Int × Int) : List Byte :=
  [BitVec.ofInt 8 px.1, BitVec.ofInt 8 px.2.1, BitVec.ofInt 8 px.2.2]

@[simp] theorem length_flatMap_pixelBytes (ps : List (Int × Int × Int)) :
    (ps.flatMap pixelBytes).length = 3 * ps.length := by
  simp [List.length_flatMap, pixelBytes, Nat.mul_comm]

/-- Channel `ch` of pixel `c` is byte `3 c + ch` of a row. -/
theorem getElem?_flatMap_pixelBytes (ps : List (Int × Int × Int)) (c : Nat) {ch : Nat} (hch : ch < 3) :
    (ps.flatMap pixelBytes)[3 * c + ch]? = ps[c]?.bind (fun px => (pixelBytes px)[ch]?) := by
  induction ps generalizing c with
  | nil => rfl
  | cons px ps ih =>
    have hlen : (pixelBytes px).length = 3 := rfl
    rw [List.flatMap_cons]
    cases c with
    | zero => simp [List.getElem?_append_left, hlen, hch]
    | succ c =>
      rw [List.getElem?_append_right (by omega), hlen, show 3 * (c + 1) + ch - 3 = 3 * c + ch by omega, ih c]
      rfl

/-- A byte stores its own value. -/
theorem toNat_ofInt_of_byte {v : Int} (h0 : 0 ≤ v) (h255 : v ≤ 255) : ((BitVec.ofInt 8 v).toNat : Int) = v := by
  rw [BitVec.toNat_ofInt]
  omega

/-- An index is in the run of a row of `DST` exactly when it is the index of a channel of one of the row's pixels. -/
theorem dstIndex_run_iff {k : Nat} : (s.dstIndex r 0 0 ≤ k ∧ k < s.dstIndex r 0 0 + 3 * s.dstW.toNat) ↔
    ∃ c < s.dstW.toNat, ∃ ch < 3, k = s.dstIndex r c ch := by
  unfold State.dstIndex
  refine ⟨fun h => ⟨(k - r * s.dstW.toNat * 3) / 3, by omega, k % 3, by omega, by omega⟩, ?_⟩
  rintro ⟨c, hc, ch, hch, hk⟩
  omega

/-- Two bytes of `DST` in different rows have different indices. -/
theorem dstIndex_row_inj {r' c c' ch ch' : Nat} (hc : c < s.dstW.toNat) (hc' : c' < s.dstW.toNat) (hch : ch < 3)
    (hch' : ch' < 3) (h : s.dstIndex r c ch = s.dstIndex r' c' ch') : r = r' := by
  unfold State.dstIndex at h
  have hpixel : r * s.dstW.toNat + c = r' * s.dstW.toNat + c' := by omega
  exact (planeIndex_inj (s := { s with plW := s.dstW }) hc hc' hpixel).1

/-- What `DST` holds after a row of pixels is written. -/
theorem State.memGet_writePixels (s : State) (r : Nat) (ps : List (Int × Int × Int)) (k : Nat) :
    memGet (s.writePixels r ps).dst k =
      if s.dstIndex r 0 0 ≤ k ∧ k < s.dstIndex r 0 0 + 3 * ps.length
      then (ps.flatMap pixelBytes)[k - s.dstIndex r 0 0]? else memGet s.dst k := by
  rw [← length_flatMap_pixelBytes]
  exact memGet_memSetRun s.dst _ k _

/-- Writing a row of pixels leaves every index outside the row alone. -/
theorem State.memGet_writePixels_outside {k : Nat} (hlen : ps.length = s.dstW.toNat)
    (hk : ∀ c < s.dstW.toNat, ∀ ch < 3, k ≠ s.dstIndex r c ch) :
    memGet (s.writePixels r ps).dst k = memGet s.dst k := by
  rw [State.memGet_writePixels, hlen, if_neg (fun hrun => ?_)]
  obtain ⟨c, hc, ch, hch, hkc⟩ := dstIndex_run_iff.mp hrun
  exact hk c hc ch hch hkc

/-- A channel of a written row of pixels. -/
theorem State.memGet_writePixels_inside {c ch : Nat} (hps : ps = (List.range s.dstW.toNat).map (f r))
    (hc : c < s.dstW.toNat) (hch : ch < 3) :
    memGet (s.writePixels r ps).dst (s.dstIndex r c ch) = (pixelBytes (f r c))[ch]? := by
  have hlen : ps.length = s.dstW.toNat := by simp [hps]
  have hoff : s.dstIndex r c ch - s.dstIndex r 0 0 = 3 * c + ch := by unfold State.dstIndex; omega
  have hpx : ps[c]? = some (f r c) := by simp [hps, hc]
  rw [State.memGet_writePixels, hlen, if_pos (dstIndex_run_iff.mpr ⟨c, hc, ch, hch, rfl⟩), hoff,
    getElem?_flatMap_pixelBytes ps c hch, hpx, Option.bind_some]

theorem PixelsBecome.nil (s : State) (f : Nat → Nat → Int × Int × Int) : PixelsBecome [] s s f :=
  ⟨by simp, fun _ _ => rfl⟩

/-- A pixel each of whose channels is the value of a byte. -/
def IsPixel (px : Int × Int × Int) : Prop := IsByteValue px.1 ∧ IsByteValue px.2.1 ∧ IsByteValue px.2.2

/-- One more row is written with the pixels that it is to hold. -/
theorem PixelsBecome.writePixels (h : PixelsBecome rows s t f) (hps : ps = (List.range t.dstW.toNat).map (f r))
    (hpixel : ∀ c, IsPixel (f r c)) : PixelsBecome (rows ++ [r]) s (t.writePixels r ps) f := by
  obtain ⟨hrows, houtside⟩ := h
  have hlen : ps.length = t.dstW.toNat := by simp [hps]
  have hW : (t.writePixels r ps).dstW = t.dstW := t.setFrame_dstW .dst _
  have hindex : ∀ r' c ch, (t.writePixels r ps).dstIndex r' c ch = t.dstIndex r' c ch := fun _ _ _ => rfl
  simp only [PixelsBecome, hW, hindex]
  refine ⟨fun r' hr' c hc => ?_, fun k hk => ?_⟩
  · by_cases heq : r' = r
    · subst heq
      obtain ⟨hblue, hgreen, hred⟩ := hpixel c
      simp only [State.memGet_writePixels_inside hps hc (by decide : 0 < 3),
        State.memGet_writePixels_inside hps hc (by decide : 1 < 3),
        State.memGet_writePixels_inside hps hc (by decide : 2 < 3)]
      exact ⟨congrArg some (toNat_ofInt_of_byte hblue.1 hblue.2),
        congrArg some (toNat_ofInt_of_byte hgreen.1 hgreen.2), congrArg some (toNat_ofInt_of_byte hred.1 hred.2)⟩
    · have hkept : ∀ ch < 3,
          memGet (t.writePixels r ps).dst (t.dstIndex r' c ch) = memGet t.dst (t.dstIndex r' c ch) :=
        fun ch hch => State.memGet_writePixels_outside hlen
          (fun c' hc' ch' hch' hk => heq (dstIndex_row_inj hc hc' hch hch' hk))
      rw [hkept 0 (by decide), hkept 1 (by decide), hkept 2 (by decide)]
      exact hrows r' (by simpa [heq] using hr') c hc
  · rw [State.memGet_writePixels_outside hlen (hk r (by simp))]
    exact houtside k (fun r' hr' => hk r' (by simp [hr']))

end Pixels

/-! ### A command with no fault latched (44_system.md R190) -/

section NoFaultLatched

variable {i : Instr} {s u : State}

theorem exec_of_check_some {code : FaultCode} (hclear : s.errCode = 0#8) (hcheck : checkOf i s = some code) :
    exec i s = .next (s.raiseFault code (encode i)) := by
  rw [exec_eq_runCommand, hcheck, runCommand_fault hclear]

/-- A command that passes its check and is no no-op completes with its effect, which is made of its updates. -/
theorem exec_of_effect {P : State → Prop} (hclear : s.errCode = 0#8) (hcheck : checkOf i s = none)
    (hnoop : isNoop i s = false) (heffect : ∃ u, effectOf i s = .ok u ∧ P u) :
    ∃ u, Evolves i (effectStart i s) u ∧ P u ∧ exec i s = .next u.complete := by
  obtain ⟨u, hu, hP⟩ := heffect
  have hruns := effectOf_runs i s
  rw [hu] at hruns
  exact ⟨u, hruns, hP, by rw [exec_eq_runCommand, hcheck, hnoop, runCommand_effect hclear hu]⟩

end NoFaultLatched

end Sys2Proof.Machine
end

section
/-! PROOFS for 40_colorspace.md, the two commands: what `TOYIQ` (R101) and `FROMYIQ` (R102) do with one row, and from
that their checks, their effect on every row and their frame. -/

namespace Sys2Proof.Machine

/-! ### What the two commands leave unchanged -/

/-- The first state with the planes of the second. -/
def State.withPlanes (s t : State) : State :=
  { s with planeY := t.planeY, planeI := t.planeI, planeQ := t.planeQ }

/-- An effect that can set no flag, draws nothing and writes no pixels changes the planes alone. -/
theorem Evolves.eq_withPlanes {i : Instr} {s t : State} (h : Evolves i s t) (hsat : maySaturate i = false)
    (hdraws : drawsNoise i = false) (hi : i ≠ .fromyiq) : t = s.withPlanes t := by
  calc t = s.withEffects t := h.eq_withEffects
    _ = s.withPlanes t := by
      rw [State.withEffects, h.sat_eq hsat, h.prngState_eq hdraws, h.dst_eq hi]
      rfl

/-- The effect of `FROMYIQ` changes `DST` alone. -/
theorem Evolves.fromyiq_eq {s t : State} (h : Evolves .fromyiq s t) : t = { s with dst := t.dst } := by
  have hplane : ∀ p, t.plane p = s.plane p := fun p => h.plane_eq rfl
  have hy : t.planeY = s.planeY := hplane .y
  have hi : t.planeI = s.planeI := hplane .i
  have hq : t.planeQ = s.planeQ := hplane .q
  calc t = s.withEffects t := h.eq_withEffects
    _ = { s with dst := t.dst } := by
      rw [State.withEffects, h.sat_eq rfl, h.prngState_eq rfl, hy, hi, hq]

/-! ### The pixels of `SRC` (20_memory.md R62, R63) -/

section SrcPixels

variable {s t : State} {r : Nat}

/-- The pixel of `SRC` at row `r`, column `c`: blue, green, red. -/
def State.srcPixel (s : State) (r c : Nat) : Int × Int × Int := (s.srcVal r c 0, s.srcVal r c 1, s.srcVal r c 2)

theorem State.srcVal_of_memGet {c ch : Nat} {v : Byte} (h : memGet s.src (s.srcIndex r c ch) = some v) :
    s.srcVal r c ch = v.toNat := by
  simp [State.srcVal, h]

theorem State.srcVal_isByteValue (s : State) (r c ch : Nat) : IsByteValue (s.srcVal r c ch) := by
  cases h : memGet s.src (s.srcIndex r c ch) with
  | none => simp [IsByteValue, State.srcVal, h]
  | some v =>
    have hv := v.isLt
    rw [State.srcVal_of_memGet h]
    exact ⟨by omega, by omega⟩

/-- What reading pixels answers depends on `SRC` and its width alone. -/
theorem State.readPixels_congr (hsrc : t.src = s.src) (hW : t.srcW = s.srcW) (r c n : Nat) :
    t.readPixels r c n = s.readPixels r c n := by
  induction n generalizing c with
  | zero => rfl
  | succ n ih =>
    simp only [State.readPixels, State.srcIndex, hsrc, hW, ih]

/-- Written pixels are read. -/
theorem State.readPixels_of_written {c n : Nat}
    (h : ∀ j < n, ∀ ch < 3, (memGet s.src (s.srcIndex r (c + j) ch)).isSome = true) :
    s.readPixels r c n = .ok ((List.range n).map (fun j => s.srcPixel r (c + j))) := by
  induction n generalizing c with
  | zero => rfl
  | succ n ih =>
    have hrest := ih (c := c + 1) (fun j hj => by
      have hnext : c + 1 + j = c + (j + 1) := by omega
      simpa only [hnext] using h (j + 1) (by omega))
    obtain ⟨b, hb⟩ := Option.isSome_iff_exists.mp (h 0 (by omega) 0 (by decide))
    obtain ⟨g, hg⟩ := Option.isSome_iff_exists.mp (h 0 (by omega) 1 (by decide))
    obtain ⟨rd, hrd⟩ := Option.isSome_iff_exists.mp (h 0 (by omega) 2 (by decide))
    have hrun : memGetRun s.src (Fault.unwrittenByte .src) (s.srcIndex r c 0) 3 = .ok [b, g, rd] := by
      have hb' : memGet s.src (s.srcIndex r c 0) = some b := hb
      have hg' : memGet s.src (s.srcIndex r c 0 + 1) = some g := hg
      have hrd' : memGet s.src (s.srcIndex r c 0 + 1 + 1) = some rd := hrd
      simp only [memGetRun, hb', hg', hrd']
    have hpixel : s.srcPixel r (c + 0) = (↑b.toNat, ↑g.toNat, ↑rd.toNat) := by
      rw [State.srcPixel, State.srcVal_of_memGet hb, State.srcVal_of_memGet hg, State.srcVal_of_memGet hrd]
    simp only [State.readPixels, hrun, hrest, List.range_succ_eq_map, List.map_cons, List.map_map, hpixel]
    simp only [Function.comp_def, Nat.succ_eq_add_one, Nat.add_assoc, Nat.add_comm 1]

theorem State.readPixels_of_srcReadable (h : s.srcReadable = true) (hr : r < s.srcH.toNat) :
    s.readPixels r 0 s.srcW.toNat = .ok ((List.range s.srcW.toNat).map (s.srcPixel r)) := by
  simp only [State.srcReadable, List.all_eq_true, List.mem_range] at h
  simpa using State.readPixels_of_written (s := s) (r := r) (c := 0)
    (fun j hj ch hch => by simpa using h r hr j hj ch hch)

end SrcPixels

/-! ### `TOYIQ` (40_colorspace.md R101) -/

/-- The component of a converted pixel that a plane takes. -/
def yiqPart : Plane → Int × Int × Int → Int
  | .y, v => v.1
  | .i, v => v.2.1
  | .q, v => v.2.2

/-- What `TOYIQ` writes at row `r`, column `c` of a plane. -/
def State.converted (s : State) (p : Plane) (r c : Nat) : Int :=
  yiqPart p (toYiq s.cfg (s.srcVal r c 0) (s.srcVal r c 1) (s.srcVal r c 2))

theorem Config.wf_chroma {c : Config} (h : c.wf = true) :
    c.kib.natAbs + c.kir.natAbs ≤ 3000000 ∧ c.kqb.natAbs + c.kqr.natAbs ≤ 3000000 := by
  simp only [Config.wf, Bool.and_eq_true, decide_eq_true_eq] at h
  obtain ⟨⟨-, hi⟩, hq⟩ := h
  exact ⟨hi, hq⟩

/-- Every sample that `TOYIQ` writes is a 32-bit value (10_state.md R49). -/
theorem State.converted_range {s : State} (hwf : s.cfg.wf = true) (p : Plane) (r c : Nat) :
    sampleMin ≤ s.converted p r c ∧ s.converted p r c ≤ sampleMax := by
  obtain ⟨hi, hq⟩ := Config.wf_chroma hwf
  have hbyte := s.srcVal_isByteValue r c
  have habs : |s.converted p r c| ≤ sampleMax := by
    cases p with
    | y => exact luma_range (hbyte 0) (hbyte 1) (hbyte 2)
    | i => exact chroma_range hi (hbyte 0) (hbyte 1) (hbyte 2)
    | q => exact chroma_range hq (hbyte 0) (hbyte 1) (hbyte 2)
  obtain ⟨hlow, hhigh⟩ := abs_le.mp habs
  exact ⟨le_trans (by decide) hlow, hhigh⟩

/-- `TOYIQ` of a row whose pixels are read writes their components along the row of each plane. -/
theorem toyiqRow_of_readPixels {s : State} {r : Nat} {ps : List (Int × Int × Int)}
    (h : s.readPixels r 0 s.srcW.toNat = .ok ps) : toyiqRow r s =
      .ok (s.writeRows r (fun p => ps.map (fun px => yiqPart p (toYiq s.cfg px.1 px.2.1 px.2.2)))) := by
  simp [toyiqRow, h, State.writeRows, yiqPart, Function.comp_def]

/-- The rows of the planes that are done hold the converted pixels of the state in which the command began. -/
def ToyiqDone (s : State) (done : List Nat) (u : State) : Prop :=
  Evolves .toyiq s.takeSrcShape u ∧ ∀ p, RowsBecome done s u p (s.converted p)

theorem toyiqRow_done {s u : State} {done : List Nat} {r : Nat} (hread : s.srcReadable = true)
    (hwf : s.cfg.wf = true) (hr : r < s.srcH.toNat) (h : ToyiqDone s done u) :
    ∃ u', toyiqRow r u = .ok u' ∧ ToyiqDone s (done ++ [r]) u' := by
  obtain ⟨hu, hrows⟩ := h
  have hsrc : u.src = s.src := hu.src_eq
  have hsrcW : u.srcW = s.srcW := hu.kept State.srcW rfl
  have hcfg : u.cfg = s.cfg := hu.kept State.cfg rfl
  have hplW : u.plW = s.srcW := hu.plW_eq
  have hpixels : u.readPixels r 0 u.srcW.toNat = .ok ((List.range s.srcW.toNat).map (s.srcPixel r)) := by
    rw [State.readPixels_congr hsrc hsrcW, hsrcW, State.readPixels_of_srcReadable hread hr]
  have hrow := toyiqRow_of_readPixels hpixels
  have hruns : RunsFrom .toyiq u (toyiqRow r u) := toyiqRow_runs (hsrcW.trans hplW.symm) (by rwa [hu.plH_eq])
  rw [hrow] at hruns
  refine ⟨_, hrow, hu.trans hruns, fun p => (hrows p).writeRows ?_ (fun c _ => State.converted_range hwf p r c)⟩
  rw [hplW, List.map_map, hcfg]
  rfl

theorem toyiqEffect_completes {s : State} (hread : s.srcReadable = true) (hwf : s.cfg.wf = true) :
    ∃ u, toyiqEffect s = .ok u ∧ ToyiqDone s (List.range s.srcH.toNat) u := by
  refine forEach_completes (P := ToyiqDone s) (fun done r rest hxs u hu => ?_)
    ⟨.refl, fun p => .nil s p _ (s.plane_takeSrcShape p)⟩
  have hr : r ∈ List.range s.srcH.toNat := by simp [hxs]
  exact toyiqRow_done hread hwf (List.mem_range.mp hr) hu

theorem toyiqCheck_of_mismatch {s : State} (h : ¬(s.srcH = s.dstH ∧ s.srcW = s.dstW)) :
    toyiqCheck s = some .shape := by
  simp [toyiqCheck, h]

theorem toyiqCheck_of_invalid {s : State} (hH : s.srcH = s.dstH) (hW : s.srcW = s.dstW)
    (h : s.srcShapeValid = false) : toyiqCheck s = some .invalidArg := by
  simp [toyiqCheck, hH, hW, h]

/-- Settles O33: each row in turn takes the converted pixels, which are samples, and no update of the command writes
anything but the planes. -/
theorem toyiqConvertsTheSourceFrame : Obligations.ToyiqConvertsTheSourceFrame := by
  unfold Obligations.ToyiqConvertsTheSourceFrame
  refine fun s hclear => ⟨fun hne => exec_of_check_some (i := .toyiq) hclear (toyiqCheck_of_mismatch hne),
    fun hH hW hinvalid => exec_of_check_some (i := .toyiq) hclear (toyiqCheck_of_invalid hH hW hinvalid),
    fun hH hW hvalid hread hwf => ?_⟩
  obtain ⟨u, hu, ⟨-, hrows⟩, hexec⟩ := exec_of_effect (i := .toyiq) hclear
    (toyiqCheck_none.mpr ⟨⟨hH, hW⟩, hvalid⟩) rfl (toyiqEffect_completes hread hwf)
  have hframe : u = s.takeSrcShape.withPlanes u := Evolves.eq_withPlanes hu rfl rfl (by decide)
  have hdone : ∀ p, RowsBecome (List.range s.srcH.toNat) s u.complete p (s.converted p) :=
    fun p => (hrows p).congr (u.plane_complete p) u.complete_plW
  exact ⟨u.complete, hexec, congrArg State.complete hframe, hdone .y, hdone .i, hdone .q⟩

/-! ### `FROMYIQ` (40_colorspace.md R102) -/

/-- What `FROMYIQ` writes at row `r`, column `c` of `DST`. -/
def State.reconstructed (s : State) (r c : Nat) : Int × Int × Int :=
  fromYiq s.cfg (s.val .y r c) (s.val .i r c) (s.val .q r c)

/-- Each channel of a reconstructed pixel is clipped to a byte (00_scope.md R8). -/
theorem fromYiq_isPixel (c : Config) (y i q : Int) : IsPixel (fromYiq c y i q) :=
  ⟨clip8_range _, clip8_range _, clip8_range _⟩

/-- `FROMYIQ` of a written row writes its reconstructed pixels along the row of `DST`. -/
theorem fromyiqRow_of_readable {s : State} {r : Nat} (h : ∀ p, s.rowReadable p r = true) :
    fromyiqRow r s = .ok (s.writePixels r ((List.range s.plW.toNat).map (s.reconstructed r))) := by
  have hzip : ((s.rowOf .y r).zip ((s.rowOf .i r).zip (s.rowOf .q r))).map
      (fun v => fromYiq s.cfg v.1 v.2.1 v.2.2) = (List.range s.plW.toNat).map (s.reconstructed r) := by
    simp only [State.rowOf, List.zip_map', List.map_map]
    rfl
  simp only [fromyiqRow, State.readRow_of_readable (h _), hzip]

/-- The rows of `DST` that are done hold the reconstructed pixels of the state in which the command began. -/
def FromyiqDone (s : State) (done : List Nat) (u : State) : Prop :=
  Evolves .fromyiq s u ∧ PixelsBecome done s u s.reconstructed

theorem fromyiqRow_done {s u : State} {done : List Nat} {r : Nat} (hW : s.dstW = s.plW)
    (hread : ∀ p, s.fieldReadable p = true) (hr : r ∈ s.rows) (h : FromyiqDone s done u) :
    ∃ u', fromyiqRow r u = .ok u' ∧ FromyiqDone s (done ++ [r]) u' := by
  obtain ⟨hu, hpixels⟩ := h
  have hplane : ∀ p, u.plane p = s.plane p := fun p => hu.plane_eq rfl
  have hplW : u.plW = s.plW := hu.plW_eq
  have hdstW : u.dstW = u.plW := (hu.kept State.dstW rfl).trans (hW.trans hplW.symm)
  have hcfg : u.cfg = s.cfg := hu.kept State.cfg rfl
  have hsame : ∀ c, u.reconstructed r c = s.reconstructed r c := fun c => by
    simp only [State.reconstructed, hcfg, State.val_congr (hplane _) hplW]
  have hrow := fromyiqRow_of_readable (s := u) (r := r) (fun p =>
    (State.rowReadable_congr (hplane p) hplW r).trans (State.rowReadable_of_fieldReadable (hread p) hr))
  have hruns : RunsFrom .fromyiq u (fromyiqRow r u) := fromyiqRow_runs (State.row_lt hr hu)
  rw [hrow] at hruns
  refine ⟨_, hrow, hu.trans hruns, hpixels.writePixels ?_ (fun c => fromYiq_isPixel _ _ _ _)⟩
  rw [hdstW]
  exact List.map_congr_left (fun c _ => hsame c)

theorem fromyiqEffect_completes {s : State} (hW : s.dstW = s.plW) (hread : ∀ p, s.fieldReadable p = true) :
    ∃ u, forEach fromyiqRow s.rows s = .ok u ∧ FromyiqDone s s.rows u := by
  refine forEach_completes (P := FromyiqDone s) (fun done r rest hxs u hu => ?_) ⟨.refl, .nil s _⟩
  have hr : r ∈ s.rows := by simp [hxs]
  exact fromyiqRow_done hW hread hr hu

theorem fromyiqCheck_of_mismatch {s : State} (h : ¬(s.dstH = s.plH ∧ s.dstW = s.plW)) :
    fromyiqCheck s = some .shape := by
  simp [fromyiqCheck, h]

theorem fromyiqCheck_of_invalid {s : State} (hH : s.dstH = s.plH) (hW : s.dstW = s.plW)
    (h : s.planeShapeValid = false) : fromyiqCheck s = some .invalidArg := by
  simp [fromyiqCheck, hH, hW, h]

/-- Settles O34: each field row of `DST` in turn takes the reconstructed pixels, which are bytes, and the planes they
come from stay as they are. -/
theorem fromyiqConvertsTheFieldRows : Obligations.FromyiqConvertsTheFieldRows := by
  unfold Obligations.FromyiqConvertsTheFieldRows
  refine fun s hclear => ⟨fun hne => exec_of_check_some (i := .fromyiq) hclear (fromyiqCheck_of_mismatch hne),
    fun hH hW hinvalid => exec_of_check_some (i := .fromyiq) hclear (fromyiqCheck_of_invalid hH hW hinvalid),
    fun hH hW hvalid hread => ?_⟩
  obtain ⟨u, hu, ⟨-, hpixels⟩, hexec⟩ := exec_of_effect (i := .fromyiq) hclear
    (fromyiqCheck_none.mpr ⟨⟨hH, hW⟩, hvalid⟩) rfl (fromyiqEffect_completes hW hread)
  have hframe : u = { s with dst := u.dst } := Evolves.fromyiq_eq hu
  exact ⟨u.complete, hexec, congrArg State.complete hframe, hpixels⟩

end Sys2Proof.Machine
end

section
/-! PROOFS for 41_filters.md, the arithmetic of one row: the recurrence of R121 stays within its inputs (R127), tracks
the recurrence over the rationals (R128) and is not the identity (R129); and the reference coefficients of R122. -/

namespace Sys2Proof.Machine

/-! ### Division (00_scope.md R7) -/

/-- The quotient of a value between two multiples of the divisor is between the factors. -/
theorem fdiv_mem_Icc {a lo hi n : Int} (hn : 0 < n) (hlo : lo * n ≤ a) (hhi : a ≤ hi * n) :
    lo ≤ fdiv a n ∧ fdiv a n ≤ hi := by
  obtain ⟨hle, hlt⟩ := fdiv_spec a hn
  have hlow : lo < fdiv a n + 1 := by nlinarith
  have hhigh : fdiv a n < hi + 1 := by nlinarith
  exact ⟨by omega, by omega⟩

/-- The rounded quotient of a value between two multiples of the divisor is between the factors. -/
theorem rdiv_mem_Icc {a lo hi n : Int} (hn : 0 < n) (hlo : lo * n ≤ a) (hhi : a ≤ hi * n) :
    lo ≤ rdiv a n ∧ rdiv a n ≤ hi := by
  obtain ⟨hle, hlt⟩ := rdiv_spec a hn
  have hlow : lo < rdiv a n + 1 := by nlinarith
  have hhigh : rdiv a n < hi + 1 := by nlinarith
  exact ⟨by omega, by omega⟩

/-- A rounded quotient is within half of the exact one. -/
theorem abs_rdiv_sub_div_le {n : Int} (a : Int) (hn : 0 < n) : |(rdiv a n : Rat) - a / n| ≤ 1 / 2 := by
  obtain ⟨hle, hlt⟩ := rdiv_spec a hn
  have hn' : (0 : Rat) < n := by exact_mod_cast hn
  have hle' : 2 * (rdiv a n : Rat) * n ≤ 2 * a + n := by exact_mod_cast hle
  have hlt' : 2 * (a : Rat) < (2 * rdiv a n + 1) * n := by exact_mod_cast hlt
  have hexact : (a : Rat) / n * n = a := div_mul_cancel₀ _ hn'.ne'
  exact abs_le.mpr ⟨by nlinarith, by nlinarith⟩

/-! ### The filter state and the output (41_filters.md R121) -/

/-- Every output is the filter state after its sample, rounded. -/
theorem lpFrom_eq_map (a st : Int) (xs : List Int) :
    lpFrom a st xs = (lpStates a st xs).map (fun p => rdiv p 65536) := by
  induction xs generalizing st with
  | nil => rfl
  | cons x xs ih => simp only [lpFrom, lpStates, List.map_cons, ih]

/-! ### Bounds (41_filters.md R127) -/

/-- The filter state holds a value between the two bounds, in units of `2^-16`. -/
def StateWithin (lo hi st : Int) : Prop := lo * 65536 ≤ st ∧ st ≤ hi * 65536

/-- The new filter state is the floor of a weighted mean of the old one and the input. -/
theorem lpStep_within {a x st lo hi : Int} (h0 : 0 ≤ a) (h1 : a ≤ 65535) (hx : lo ≤ x ∧ x ≤ hi)
    (hst : StateWithin lo hi st) : StateWithin lo hi (lpStep a x st) := by
  obtain ⟨hxlo, hxhi⟩ := hx
  obtain ⟨hstlo, hsthi⟩ := hst
  exact fdiv_mem_Icc (by decide) (by nlinarith) (by nlinarith)

theorem lpStates_within {a st lo hi : Int} {xs : List Int} (h0 : 0 ≤ a) (h1 : a ≤ 65535)
    (hxs : ∀ x ∈ xs, lo ≤ x ∧ x ≤ hi) (hst : StateWithin lo hi st) : ∀ p ∈ lpStates a st xs, StateWithin lo hi p := by
  induction xs generalizing st with
  | nil => simp [lpStates]
  | cons x xs ih =>
    have hstep := lpStep_within h0 h1 (hxs x List.mem_cons_self) hst
    exact List.forall_mem_cons.mpr ⟨hstep, ih (fun y hy => hxs y (List.mem_cons_of_mem _ hy)) hstep⟩

/-- Settles O43: each step keeps the bounds on the filter state, and rounding keeps them on the output. -/
theorem lowPassStaysWithinItsInputs : Obligations.LowPassStaysWithinItsInputs := by
  unfold Obligations.LowPassStaysWithinItsInputs
  intro a v0 lo hi xs h0 h1 hlo hhi hxs
  have hstates := lpStates_within h0 h1 hxs (st := v0 * 65536) ⟨by omega, by omega⟩
  refine ⟨hstates, fun v hv => ?_⟩
  rw [lpRow, lpFrom_eq_map] at hv
  obtain ⟨p, hp, rfl⟩ := List.mem_map.mp hv
  obtain ⟨hplo, hphi⟩ := hstates p hp
  exact rdiv_mem_Icc (by decide) hplo hphi

/-! ### The recurrence over the rationals (41_filters.md R128) -/

/-- The filter state is at most `2^-16/alpha` below the exact value and never above it. -/
def Tracks (a st : Int) (y : Rat) : Prop := 0 ≤ y - st / 65536 ∧ y - st / 65536 < 1 / 65536 / ((a : Rat) / 65536)

theorem tracks_start {a : Int} (h0 : 0 < a) (v0 : Int) : Tracks a (v0 * 65536) v0 := by
  have ha : (0 : Rat) < a := by exact_mod_cast h0
  have hexact : (v0 : Rat) - ((v0 * 65536 : Int) : Rat) / 65536 = 0 := by push_cast; ring
  unfold Tracks
  rw [hexact]
  exact ⟨le_rfl, by positivity⟩

/-- The floor loses less than `2^-16` in a step, and a step scales what was lost before by `1 - alpha`: the bound
`2^-16/alpha` is the fixed point. -/
theorem lpStep_tracks {a x st : Int} {y : Rat} (h0 : 0 < a) (h1 : a ≤ 65535) (h : Tracks a st y) :
    Tracks a (lpStep a x st) ((a : Rat) / 65536 * x + (1 - (a : Rat) / 65536) * y) := by
  obtain ⟨hlow, hhigh⟩ := h
  obtain ⟨hfloor, hceil⟩ := fdiv_spec (a * (x * 65536) + (65536 - a) * st) (b := 65536) (by decide)
  have hfloor' : (lpStep a x st : Rat) * 65536 ≤ a * (x * 65536) + (65536 - a) * st := by exact_mod_cast hfloor
  have hceil' : (a : Rat) * (x * 65536) + (65536 - a) * st < (lpStep a x st + 1) * 65536 := by exact_mod_cast hceil
  have ha : (0 : Rat) < a := by exact_mod_cast h0
  have ha' : (a : Rat) ≤ 65535 := by exact_mod_cast h1
  have hbound : (1 : Rat) / 65536 / ((a : Rat) / 65536) = 1 / a := by field_simp
  have hone : (a : Rat) * (1 / a) = 1 := by field_simp
  unfold Tracks
  rw [hbound] at hhigh ⊢
  generalize (1 : Rat) / a = bound at *
  generalize (lpStep a x st : Rat) = st' at *
  exact ⟨by nlinarith, by nlinarith⟩

theorem lpStates_tracks {a st : Int} {y : Rat} {xs : List Int} (h0 : 0 < a) (h1 : a ≤ 65535) (h : Tracks a st y)
    {n : Nat} (hn : n < xs.length) :
    Tracks a ((lpStates a st xs).getD n 0) ((exactLp ((a : Rat) / 65536) y xs).getD n 0) := by
  induction xs generalizing st y n with
  | nil => exact absurd hn (by simp)
  | cons x xs ih =>
    have hstep := lpStep_tracks (x := x) h0 h1 h
    cases n with
    | zero => exact hstep
    | succ n => exact ih hstep (by simpa using hn)

/-- Settles O44: each step keeps the distance of the filter state, and rounding adds at most a half. -/
theorem lowPassTracksTheExactRecurrence : Obligations.LowPassTracksTheExactRecurrence := by
  unfold Obligations.LowPassTracksTheExactRecurrence
  intro a v0 xs h0 h1 n hn alpha y p out
  obtain ⟨hlow, hhigh⟩ : Tracks a ((lpStates a (v0 * 65536) xs).getD n 0) y :=
    lpStates_tracks h0 h1 (tracks_start h0 v0) hn
  have hout : (lpRow a v0 xs).getD n 0 = rdiv ((lpStates a (v0 * 65536) xs).getD n 0) 65536 := by
    rw [lpRow, lpFrom_eq_map]
    exact List.getD_map _ 0 (fun p => rdiv p 65536)
  have hround : |out - p / 65536| ≤ 1 / 2 := by
    simp only [out, p, hout]
    exact_mod_cast abs_rdiv_sub_div_le _ (n := 65536) (by decide)
  refine ⟨hlow, hhigh, ?_⟩
  calc |out - y| ≤ |out - p / 65536| + |p / 65536 - y| := abs_sub_le _ _ _
    _ = |out - p / 65536| + (y - p / 65536) := by rw [abs_sub_comm (p / 65536), abs_of_nonneg hlow]
    _ ≤ 1 / 2 + 1 / 65536 / alpha := add_le_add hround hhigh.le

/-! ### The low-pass is not the identity (41_filters.md R129) -/

/-- A sample more than `2^15` away from the reset value is not its own low-pass. -/
theorem lpRow_singleton_ne {a v0 x : Int} (h1 : a ≤ 65535) (hfar : 32768 < |x - v0|) : lpRow a v0 [x] ≠ [x] := by
  intro heq
  have hstep : lpStep a x (v0 * 65536) = a * x + (65536 - a) * v0 := by
    have hmul : a * (x * 65536) + (65536 - a) * (v0 * 65536) = (a * x + (65536 - a) * v0) * 65536 := by ring
    rw [lpStep, hmul]
    exact Int.mul_ediv_cancel _ (by decide)
  have hfix : rdiv (a * x + (65536 - a) * v0) 65536 = x := by
    rw [← hstep]
    exact List.head_eq_of_cons_eq heq
  obtain ⟨hlow, hhigh⟩ := rdiv_spec (a * x + (65536 - a) * v0) (b := 65536) (by decide)
  rw [hfix] at hlow hhigh
  obtain hpos | hneg := lt_abs.mp hfar
  · nlinarith
  · nlinarith

/-- For every 32-bit reset value one end of the sample range is far from it. -/
theorem exists_lpRow_ne {a v0 : Int} (h1 : a ≤ 65535) (hlo : -2 ^ 31 ≤ v0) (hhi : v0 < 2 ^ 31) :
    ∃ x : Int, -2 ^ 31 ≤ x ∧ x < 2 ^ 31 ∧ lpRow a v0 [x] ≠ [x] := by
  by_cases hv : v0 < 0
  · exact ⟨2 ^ 31 - 1, by omega, by omega, lpRow_singleton_ne h1 (lt_abs.mpr (.inl (by omega)))⟩
  · exact ⟨-2 ^ 31, by omega, by omega, lpRow_singleton_ne h1 (lt_abs.mpr (.inr (by omega)))⟩

/-! ### The reference coefficients (41_filters.md R122) -/

/-- An integer is the coefficient of a cutoff when it is within a half of `65536 alpha`, said without the division. -/
theorem isAlphaOf_of_mul {fc fs : ℝ} {a : ℤ} (hfs : 0 < fs) (hfc : 0 < fc) (ha0 : 0 ≤ a) (ha1 : a ≤ 65535)
    (h : |a * (fs + 2 * Real.pi * fc) - 65536 * (2 * Real.pi * fc)| ≤ 1 / 2 * (fs + 2 * Real.pi * fc)) :
    IsAlphaOf fc fs a := by
  have hpos : 0 < fs + 2 * Real.pi * fc := by positivity
  refine ⟨a, ?_, by omega⟩
  rw [← mul_div_assoc, sub_div' hpos.ne', abs_div, abs_of_pos hpos]
  exact (div_le_iff₀ hpos).mpr h

/-- Settles O31: the bound is linear in `pi`, of which six decimals suffice. -/
theorem referenceCutoffCoefficients : Obligations.ReferenceCutoffCoefficients := by
  unfold Obligations.ReferenceCutoffCoefficients
  have hlow := Real.pi_gt_d6
  have hhigh := Real.pi_lt_d6
  have hrate : ((ntscRate : Rat) : ℝ) = 157500000 / 11 := by norm_num [ntscRate]
  rw [hrate]
  refine ⟨?_, ?_, ?_, ?_, ?_⟩
  all_goals
    refine isAlphaOf_of_mul (by norm_num) (by norm_num) (by norm_num) (by norm_num) ?_
    push_cast
    exact abs_le.mpr ⟨by linarith, by linarith⟩

end Sys2Proof.Machine
end

section
/-! PROOFS for 41_filters.md, one operation along the field rows of the masked planes (R120): the scanlines in order,
what a plane holds that some rows of have been replaced, and what a filter command answers that passes its check. -/

namespace Sys2Proof.Machine

/-! ### The scanlines of a filter command (30_encoding.md R82; 41_filters.md R120) -/

section Scanlines

variable {s : State} {pm : BitVec 3} {p : Plane} {r : Nat}

/-- The field rows of each masked plane, in the order in which a filter command does them. -/
def State.scanlines (s : State) (pm : BitVec 3) : List (Plane × Nat) := maskPlanes pm ×ˢ s.rows

theorem State.mem_scanlines : (p, r) ∈ s.scanlines pm ↔ planeSelected pm p = true ∧ r ∈ s.rows := by
  rw [State.scanlines, List.mem_product, mem_maskPlanes]

theorem State.nodup_scanlines (s : State) (pm : BitVec 3) : (s.scanlines pm).Nodup := by
  have hplanes : [Plane.y, Plane.i, Plane.q].Nodup := by decide
  have hrows : s.rows.Nodup := (fieldRows_ascending _ _).imp Nat.ne_of_lt
  exact (hplanes.filter _).product hrows

theorem forEach_append {α σ : Type} (f : α → σ → Except Fault σ) (xs ys : List α) (st : σ) :
    forEach f (xs ++ ys) st = forEach f xs st >>= forEach f ys := by
  induction xs generalizing st with
  | nil => rfl
  | cons x xs ih =>
    rw [List.cons_append, forEach, forEach]
    cases f x st with
    | error e => rfl
    | ok st' => exact ih st'

theorem forEach_map {α β σ : Type} (f : β → σ → Except Fault σ) (g : α → β) (xs : List α) (st : σ) :
    forEach f (xs.map g) st = forEach (fun x => f (g x)) xs st := by
  induction xs generalizing st with
  | nil => rfl
  | cons x xs ih => simp only [List.map_cons, forEach, ih]

/-- Plane after plane and in each row after row is scanline after scanline. -/
theorem filterPlanes_eq_forEach (pm : BitVec 3) (op : Plane → Nat → State → Except Fault State) (s : State) :
    filterPlanes pm op s = forEach (fun l => op l.1 l.2) (s.scanlines pm) s := by
  have hplanes : ∀ (ps : List Plane) (rows : List Nat) (t : State),
      forEach (fun p u => forEach (op p) rows u) ps t = forEach (fun l => op l.1 l.2) (ps ×ˢ rows) t := by
    intro ps rows
    induction ps with
    | nil => exact fun t => rfl
    | cons p ps ih =>
      intro t
      rw [List.product_cons, forEach_append, forEach_map, forEach]
      cases forEach (op p) rows t with
      | error e => rfl
      | ok u => exact ih u
  exact hplanes (maskPlanes pm) s.rows s

/-- The rows of one plane among some scanlines. -/
def rowsOf (p : Plane) (ls : List (Plane × Nat)) : List Nat := (ls.filter (fun l => l.1 = p)).map Prod.snd

theorem mem_rowsOf {ls : List (Plane × Nat)} : r ∈ rowsOf p ls ↔ (p, r) ∈ ls := by
  simp [rowsOf]

theorem rowsOf_append_same (p : Plane) (r : Nat) (ls : List (Plane × Nat)) :
    rowsOf p (ls ++ [(p, r)]) = rowsOf p ls ++ [r] := by
  simp [rowsOf]

theorem rowsOf_append_other {p' : Plane} (h : p' ≠ p) (r : Nat) (ls : List (Plane × Nat)) :
    rowsOf p (ls ++ [(p', r)]) = rowsOf p ls := by
  simp [rowsOf, h]

end Scanlines

/-! ### What a plane holds that some rows of have been replaced -/

section Planes

variable {rows rows' : List Nat} {s t u : State} {p : Plane} {f f' : Nat → Nat → Int} {r c : Nat}

/-- A value in the range of a sample. -/
def IsSample (v : Int) : Prop := sampleMin ≤ v ∧ v ≤ sampleMax

theorem clamps_eq_false_of_isSample {v : Int} (h : IsSample v) : clamps v = false := by
  simp [clamps, h.1, h.2]

/-- Every value of a plane is a sample. -/
theorem State.val_isSample (s : State) (p : Plane) (r c : Nat) : IsSample (s.val p r c) := by
  unfold State.val State.sampleAt
  cases memGet (s.plane p) (s.planeIndex r c) with
  | none => exact ⟨by decide, by decide⟩
  | some v => exact ⟨v.le_toInt, Int.le_sub_one_of_lt v.toInt_lt⟩

theorem State.rowOf_isSample (s : State) (p : Plane) (r : Nat) : ∀ x ∈ s.rowOf p r, IsSample x :=
  List.forall_mem_map.mpr (fun c _ => s.val_isSample p r c)

theorem State.sampleAt_of_readable (h : s.rowReadable p r = true) (hc : c < s.plW.toNat) :
    s.sampleAt p r c = some (s.val p r c) := by
  have hsome := List.all_eq_true.mp h c (List.mem_range.mpr hc)
  obtain ⟨v, hv⟩ := Option.isSome_iff_exists.mp hsome
  rw [State.val, hv, Option.getD_some]

/-- What the rows hold counts only for their columns, and only for which rows they are. -/
theorem RowsBecome.congr_values (h : RowsBecome rows s t p f) (hrows : ∀ r, r ∈ rows' ↔ r ∈ rows)
    (hf : ∀ r ∈ rows, ∀ c < t.plW.toNat, f r c = f' r c) : RowsBecome rows' s t p f' := by
  obtain ⟨hinside, houtside⟩ := h
  refine ⟨fun r hr c hc => ?_, fun k hk => houtside k (fun r hr => hk r ((hrows r).mpr hr))⟩
  have hr' := (hrows r).mp hr
  rw [hinside r hr' c hc, hf r hr' c hc]

/-- A row that is not among those replaced reads as before. -/
theorem RowsBecome.sampleAt_of_not_mem (h : RowsBecome rows s t p f) (hW : t.plW = s.plW) (hr : r ∉ rows)
    (hc : c < t.plW.toNat) : t.sampleAt p r c = s.sampleAt p r c := by
  have hindex : t.planeIndex r c = s.planeIndex r c := by simp only [State.planeIndex, hW]
  have hkept := h.2 (t.planeIndex r c) (fun r' hr' c' hc' hk => hr ((planeIndex_inj hc hc' hk).1 ▸ hr'))
  rw [State.sampleAt, State.sampleAt, hkept, hindex]

/-- Reading and the values of a row are those of its samples. -/
theorem State.row_congr (hW : t.plW = s.plW) (h : ∀ c < s.plW.toNat, t.sampleAt p r c = s.sampleAt p r c) :
    t.rowReadable p r = s.rowReadable p r ∧ t.rowOf p r = s.rowOf p r := by
  unfold State.rowReadable State.rowOf State.val
  rw [hW]
  refine ⟨?_, List.map_congr_left (fun c hc => by rw [h c (List.mem_range.mp hc)])⟩
  rw [Bool.eq_iff_iff, List.all_eq_true, List.all_eq_true]
  exact forall₂_congr (fun c hc => by rw [h c (List.mem_range.mp hc)])

end Planes

/-! ### The scanlines done so far -/

section Done

variable {v : Plane → Nat → Nat → Int} {g : List Int → List Int} {s u : State} {done : List (Plane × Nat)}
  {pm : BitVec 3} {p : Plane} {r : Nat}

theorem State.writeRowSat_sat (s : State) (p : Plane) (r : Nat) (vs : List Int) :
    (s.writeRowSat p r vs).sat = (s.sat || vs.any clamps) := by
  simp [State.writeRowSat, State.writeRow]

theorem State.writeRowSat_plW (s : State) (p : Plane) (r : Nat) (vs : List Int) :
    (s.writeRowSat p r vs).plW = s.plW := by
  simp [State.writeRowSat, State.writeRow]

theorem mapRowSat_of_readable (h : s.rowReadable p r = true) :
    mapRowSat p g r s = .ok (s.writeRowSat p r (g (s.rowOf p r))) := by
  rw [mapRowSat, State.readRow_of_readable h]

/-- The scanlines that are done hold the saturated values, and the flag says whether one of these was clamped. -/
structure FilterDone (v : Plane → Nat → Nat → Int) (s : State) (done : List (Plane × Nat)) (u : State) : Prop where
  plW : u.plW = s.plW
  planes : ∀ p, RowsBecome (rowsOf p done) s u p (fun r c => sat32 (v p r c))
  sat : u.sat = true ↔ s.sat = true ∨ ∃ p r, (p, r) ∈ done ∧ ∃ c < s.plW.toNat, clamps (v p r c) = true

/-- A scanline that is not done yet is as it was. -/
theorem FilterDone.row_eq (h : FilterDone v s done u) (hnew : (p, r) ∉ done) :
    u.rowReadable p r = s.rowReadable p r ∧ u.rowOf p r = s.rowOf p r :=
  State.row_congr h.plW (fun _ hc =>
    (h.planes p).sampleAt_of_not_mem h.plW (fun hr => hnew (mem_rowsOf.mp hr)) (by rwa [h.plW]))

theorem FilterDone.writeRowSat (h : FilterDone v s done u) (p : Plane) (r : Nat) :
    FilterDone v s (done ++ [(p, r)]) (u.writeRowSat p r ((List.range s.plW.toNat).map (v p r))) where
  plW := (u.writeRowSat_plW p r _).trans h.plW
  planes p' := by
    have hW := u.writeRowSat_plW p r ((List.range s.plW.toNat).map (v p r))
    by_cases hp : p' = p
    · subst hp
      rw [rowsOf_append_same]
      refine ((h.planes p').writeRow ?_ (fun c _ => sat32_range _)).congr (u.plane_writeRowSat p' p' r _) ?_
      · rw [h.plW, List.map_map]
        rfl
      · exact hW.trans (u.setPlane_plW p' _).symm
    · rw [rowsOf_append_other (Ne.symm hp)]
      exact (h.planes p').congr (u.plane_writeRow_other p p' r _ hp) hW
  sat := by
    have hany : ((List.range s.plW.toNat).map (v p r)).any clamps = true ↔
        ∃ c < s.plW.toNat, clamps (v p r c) = true := by
      simp only [List.any_map, List.any_eq_true, List.mem_range, Function.comp_apply]
    rw [State.writeRowSat_sat, Bool.or_eq_true, h.sat, hany, or_assoc]
    refine or_congr_right ⟨?_, ?_⟩
    · rintro (⟨p', r', hmem, hclamps⟩ | hclamps)
      · exact ⟨p', r', by simp [hmem], hclamps⟩
      · exact ⟨p, r, by simp, hclamps⟩
    · rintro ⟨p', r', hmem, hclamps⟩
      obtain hmem | heq := List.mem_append.mp hmem
      · exact .inl ⟨p', r', hmem, hclamps⟩
      · obtain ⟨rfl, rfl⟩ : p' = p ∧ r' = r := by simpa using heq
        exact .inr hclamps

/-- One more scanline: it reads as at the start of the command, and takes the saturated values. -/
theorem mapRowSat_done (hv : g (s.rowOf p r) = (List.range s.plW.toNat).map (v p r))
    (hread : s.rowReadable p r = true) (hnew : (p, r) ∉ done) (h : FilterDone v s done u) :
    ∃ u', mapRowSat p g r u = .ok u' ∧ FilterDone v s (done ++ [(p, r)]) u' := by
  obtain ⟨hreadable, hrow⟩ := h.row_eq hnew
  refine ⟨_, mapRowSat_of_readable (hreadable.trans hread), ?_⟩
  rw [hrow, hv]
  exact h.writeRowSat p r

/-- Where the scanlines are readable, an operation on each of them completes with the values it computes from the row
as it was before the command. -/
theorem filterPlanes_completes (hv : ∀ p r, g (s.rowOf p r) = (List.range s.plW.toNat).map (v p r))
    (hread : ∀ p, planeSelected pm p = true → s.fieldReadable p = true) :
    ∃ u, filterPlanes pm (fun p => mapRowSat p g) s = .ok u ∧ FilterDone v s (s.scanlines pm) u := by
  rw [filterPlanes_eq_forEach]
  refine forEach_completes (P := FilterDone v s) (fun done l rest hls u hu => ?_)
    ⟨rfl, fun p => .nil s p _ rfl, by simp⟩
  obtain ⟨p, r⟩ := l
  have hmem : (p, r) ∈ s.scanlines pm := by simp [hls]
  obtain ⟨hp, hr⟩ := State.mem_scanlines.mp hmem
  have hnew : (p, r) ∉ done := fun hdone =>
    List.disjoint_of_nodup_append (hls ▸ s.nodup_scanlines pm) hdone List.mem_cons_self
  exact mapRowSat_done (hv p r) (State.rowReadable_of_fieldReadable (hread p hp) hr) hnew hu

/-- Once all scanlines are done, the field rows of the masked planes hold the saturated values. -/
theorem FilterDone.selected (h : FilterDone v s (s.scanlines pm) u) (hp : planeSelected pm p = true) :
    RowsBecome s.rows s u p (fun r c => sat32 (v p r c)) :=
  (h.planes p).congr_values (fun r => by simp [mem_rowsOf, State.mem_scanlines, hp]) (fun _ _ _ _ => rfl)

theorem FilterDone.sat_iff (h : FilterDone v s (s.scanlines pm) u) :
    u.sat = true ↔ s.sat = true ∨ ∃ p, planeSelected pm p = true ∧ FieldClamps s (v p) := by
  rw [h.sat]
  refine or_congr_right ⟨?_, ?_⟩
  · rintro ⟨p, r, hmem, hclamps⟩
    obtain ⟨hp, hr⟩ := State.mem_scanlines.mp hmem
    exact ⟨p, hp, r, hr, hclamps⟩
  · rintro ⟨p, hp, r, hr, hclamps⟩
    exact ⟨p, r, State.mem_scanlines.mpr ⟨hp, hr⟩, hclamps⟩

/-- A command whose effect is such an operation, with no fault latched and its check passed. -/
theorem exec_of_filter {i : Instr} (hclear : s.errCode = 0#8) (hcheck : checkOf i s = none)
    (hnoop : isNoop i s = false) (heffect : effectOf i s = filterPlanes pm (fun p => mapRowSat p g) s)
    (hv : ∀ p r, g (s.rowOf p r) = (List.range s.plW.toNat).map (v p r))
    (hread : ∀ p, planeSelected pm p = true → s.fieldReadable p = true) :
    ∃ u, Evolves i (effectStart i s) u ∧ FilterDone v s (s.scanlines pm) u ∧ exec i s = .next u.complete :=
  exec_of_effect hclear hcheck hnoop (by rw [heffect]; exact filterPlanes_completes hv hread)

end Done

end Sys2Proof.Machine
end

section
/-! PROOFS for 41_filters.md, the commands: the values `LPF` (R123), `HPF` (R124), `LPF3` (R125) and `PREEMPH` (R126)
compute from a row, and from them each command's check, effect, flag and frame; then the neutral settings (R129). -/

namespace Sys2Proof.Machine

/-! ### The values of a row -/

/-- A row is its values column by column. -/
theorem eq_map_range_getD {xs : List Int} {n : Nat} (h : xs.length = n) :
    xs = (List.range n).map (fun c => xs.getD c 0) := by
  refine List.ext_getElem (by simp [h]) (fun c hc _ => ?_)
  simp [hc]

/-- A row combined with another row of the plane's width, column by column. -/
theorem zipWith_rowOf (s : State) (p : Plane) (r : Nat) (f : Int → Int → Int) {ls : List Int}
    (h : ls.length = s.plW.toNat) :
    List.zipWith f (s.rowOf p r) ls = (List.range s.plW.toNat).map (fun c => f (s.val p r c) (ls.getD c 0)) := by
  refine List.ext_getElem (by simp [h]) (fun c hc _ => ?_)
  have hc' : c < ls.length := List.lt_length_right_of_zipWith hc
  simp [State.rowOf, hc']

/-- A row operation that turns samples into as many samples. -/
structure MapsSamples (g : List Int → List Int) : Prop where
  length : ∀ xs, (g xs).length = xs.length
  isSample : ∀ {xs}, (∀ x ∈ xs, IsSample x) → ∀ v ∈ g xs, IsSample v

theorem MapsSamples.comp {g h : List Int → List Int} (hg : MapsSamples g) (hh : MapsSamples h) :
    MapsSamples (fun xs => h (g xs)) where
  length xs := (hh.length _).trans (hg.length xs)
  isSample hxs := hh.isSample (hg.isSample hxs)

/-- The low-pass of samples from a reset value that is one needs no saturation (41_filters.md R127). -/
theorem lpRow_mapsSamples (s : State) : MapsSamples (lpRow s.alpha s.resetValue) where
  length := length_lpRow _ _
  isSample hxs := by
    have halpha : s.alpha ≤ 65535 := by
      have hlt := s.fltAlpha.isLt
      unfold State.alpha
      omega
    exact (lowPassStaysWithinItsInputs s.alpha s.resetValue sampleMin sampleMax _ (Int.natCast_nonneg _) halpha
      s.fltReset.le_toInt (Int.le_sub_one_of_lt s.fltReset.toInt_lt) hxs).2

theorem lp3Row_mapsSamples (s : State) : MapsSamples (lp3Row s.alpha s.resetValue) :=
  ((lpRow_mapsSamples s).comp (lpRow_mapsSamples s)).comp (lpRow_mapsSamples s)

section Saturation

variable {g : List Int → List Int} {s : State} {p : Plane}

theorem MapsSamples.row_isSample (hg : MapsSamples g) (s : State) (p : Plane) (r : Nat) :
    ∀ v ∈ g (s.rowOf p r), IsSample v := hg.isSample (s.rowOf_isSample p r)

theorem MapsSamples.getD_isSample (hg : MapsSamples g) (s : State) (p : Plane) (r c : Nat) :
    IsSample ((g (s.rowOf p r)).getD c 0) := by
  by_cases hc : c < (g (s.rowOf p r)).length
  · rw [List.getD_eq_getElem _ _ hc]
    exact hg.row_isSample s p r _ (List.getElem_mem hc)
  · rw [List.getD_eq_default _ _ (by omega)]
    exact ⟨by decide, by decide⟩

theorem State.noteSat_false (s : State) : s.noteSat false = s := by
  simp [State.noteSat]

/-- Saturation changes nothing for an operation whose values are samples. -/
theorem mapRow_eq_mapRowSat (hg : MapsSamples g) : mapRow p g = mapRowSat p g := by
  funext r s
  unfold mapRow mapRowSat
  obtain ⟨e, hx⟩ | ⟨-, hx⟩ := s.readRow_cases p r
  · rw [hx]
  · have hsamples := hg.row_isSample s p r
    have hsat : (g (s.rowOf p r)).map sat32 = g (s.rowOf p r) :=
      (List.map_congr_left (g := id)
        (fun v hv => sat32_of_not_clamps (clamps_eq_false_of_isSample (hsamples v hv)))).trans (List.map_id _)
    have hclamps : (g (s.rowOf p r)).any clamps = false :=
      List.any_eq_false.mpr (fun v hv => by simp [clamps_eq_false_of_isSample (hsamples v hv)])
    simp only [hx, State.writeRowSat, hsat, hclamps, State.noteSat_false]

end Saturation

/-! ### What the commands leave unchanged -/

section Commands

variable {i : Instr} {s t : State} {pm : BitVec 3}

/-- An effect that draws nothing and writes no pixels changes the planes and the flag alone. -/
theorem Evolves.eq_withPlanes_sat (h : Evolves i s t) (hdraws : drawsNoise i = false) (hi : i ≠ .fromyiq) :
    t = { s.withPlanes t with sat := t.sat } := by
  calc t = s.withEffects t := h.eq_withEffects
    _ = { s.withPlanes t with sat := t.sat } := by
      rw [State.withEffects, h.prngState_eq hdraws, h.dst_eq hi]
      rfl

theorem encodeFields_eq_ofNat (op : BitVec 8) (pm : BitVec 3) :
    encodeFields op pm = BitVec.ofNat 32 (op.toNat + 0x100 * pm.toNat) := by
  have hop := op.isLt
  have hpm := pm.isLt
  refine BitVec.eq_of_toNat_eq ?_
  rw [encodeFields, BitVec.toNat_append, BitVec.toNat_append, ← Nat.shiftLeft_add_eq_or_of_lt hop, BitVec.toNat_ofNat,
    BitVec.toNat_ofNat, Nat.zero_mod, Nat.zero_shiftLeft, Nat.zero_or, Nat.shiftLeft_eq]
  omega

theorem planeCheck_of_invalid (h : s.planeShapeValid = false) : planeCheck s = some .invalidArg := by
  simp [planeCheck, h]

/-- A filter command with an invalid plane shape and no fault latched. -/
theorem exec_of_invalidShape (hcheck : checkOf i s = planeCheck s) (hclear : s.errCode = 0#8)
    (hinvalid : s.planeShapeValid = false) {w : Word} (hw : encode i = w) :
    exec i s = .next { s with errCode := 3#8, errCmd := w } := by
  rw [← hw]
  exact exec_of_check_some hclear (hcheck.trans (planeCheck_of_invalid hinvalid))

/-! ### `LPF` and `LPF3` (41_filters.md R123, R125) -/

/-- From one state to the other the field rows of the masked planes became `g` of the old rows; apart from the planes
and the count the states are the same. -/
structure FieldMapped (pm : BitVec 3) (g : List Int → List Int) (s t : State) : Prop where
  frame : t = { s.withPlanes t with cmdCnt := t.cmdCnt }
  unselected : ∀ p, planeSelected pm p = false → t.plane p = s.plane p
  selected : ∀ p, planeSelected pm p = true → RowsBecome s.rows s t p (fun r c => (g (s.rowOf p r)).getD c 0)

/-- What the two low-pass commands have in common: the one check, no no-op, and writes to the masked planes alone. -/
theorem lowPass_permissions (hi : i = .lpf pm ∨ i = .lpf3 pm) (s : State) :
    checkOf i s = planeCheck s ∧ isNoop i s = false ∧ effectStart i s = s ∧ maySaturate i = false ∧
      drawsNoise i = false ∧ i ≠ .fromyiq ∧ writesPlane i = planeSelected pm := by
  rcases hi with rfl | rfl
  · exact ⟨rfl, rfl, rfl, rfl, rfl, by simp, rfl⟩
  · exact ⟨rfl, rfl, rfl, rfl, rfl, by simp, rfl⟩

/-- A low-pass command completes with its operation along every scanline. -/
theorem exec_of_lowPass {g : List Int → List Int} (hi : i = .lpf pm ∨ i = .lpf3 pm) (hg : MapsSamples g)
    (heffect : effectOf i s = filterPlanes pm (fun p => mapRow p g) s) (hclear : s.errCode = 0#8)
    (hvalid : s.planeShapeValid = true) (hread : ∀ p, planeSelected pm p = true → s.fieldReadable p = true) :
    ∃ t, exec i s = .next t ∧ t.cmdCnt = s.cmdCnt + 1#32 ∧ FieldMapped pm g s t := by
  obtain ⟨hcheck, hnoop, hstart, hsat, hdraws, hne, hwrites⟩ := lowPass_permissions hi s
  simp only [mapRow_eq_mapRowSat hg] at heffect
  obtain ⟨u, hu, hdone, hexec⟩ := exec_of_filter (v := fun p r c => (g (s.rowOf p r)).getD c 0) hclear
    (hcheck.trans (planeCheck_none.mpr hvalid)) hnoop heffect
    (fun p r => eq_map_range_getD ((hg.length _).trans (s.rowOf_length p r))) hread
  rw [hstart] at hu
  have hframe : u = s.withPlanes u := hu.eq_withPlanes hsat hdraws hne
  have hcnt : u.cmdCnt = s.cmdCnt := hu.kept State.cmdCnt rfl
  refine ⟨u.complete, hexec, congrArg (· + 1#32) hcnt, ?_, fun p hp => hu.plane_eq (hwrites ▸ hp), fun p hp => ?_⟩
  · calc u.complete = { s.withPlanes u with cmdCnt := u.cmdCnt + 1#32 } := by rw [← hframe]; rfl
      _ = { s.withPlanes u.complete with cmdCnt := u.complete.cmdCnt } := rfl
  · refine ((hdone.selected hp).congr (u.plane_complete p) u.complete_plW).congr_values (fun _ => Iff.rfl) ?_
    exact fun r _ c _ => sat32_of_not_clamps (clamps_eq_false_of_isSample (hg.getD_isSample s p r c))

theorem exec_lpf (hclear : s.errCode = 0#8) (hvalid : s.planeShapeValid = true)
    (hread : ∀ p, planeSelected pm p = true → s.fieldReadable p = true) :
    ∃ t, exec (.lpf pm) s = .next t ∧ t.cmdCnt = s.cmdCnt + 1#32 ∧
      FieldMapped pm (lpRow s.alpha s.resetValue) s t :=
  exec_of_lowPass (.inl rfl) (lpRow_mapsSamples s) rfl hclear hvalid hread

theorem exec_lpf3 (hclear : s.errCode = 0#8) (hvalid : s.planeShapeValid = true)
    (hread : ∀ p, planeSelected pm p = true → s.fieldReadable p = true) :
    ∃ t, exec (.lpf3 pm) s = .next t ∧ t.cmdCnt = s.cmdCnt + 1#32 ∧
      FieldMapped pm (lp3Row s.alpha s.resetValue) s t :=
  exec_of_lowPass (.inr rfl) (lp3Row_mapsSamples s) rfl hclear hvalid hread

/-- What a statement about `LPF` or `LPF3` says of the state after the command. -/
theorem FieldMapped.frame_and_rows {g : List Int → List Int} (h : FieldMapped pm g s t)
    (hcnt : t.cmdCnt = s.cmdCnt + 1#32) :
    t = { s with planeY := t.planeY, planeI := t.planeI, planeQ := t.planeQ, cmdCnt := s.cmdCnt + 1#32 } ∧
      ∀ p, (planeSelected pm p = false → t.plane p = s.plane p) ∧
        (planeSelected pm p = true → RowsBecome s.rows s t p (fun r c => (g (s.rowOf p r)).getD c 0)) :=
  ⟨by rw [← hcnt]; exact h.frame, fun p => ⟨h.unselected p, h.selected p⟩⟩

/-- Settles O37: the low-pass is one operation along each scanline, and its values are samples. -/
theorem lpfFiltersTheMaskedFieldRows : Obligations.LpfFiltersTheMaskedFieldRows := by
  unfold Obligations.LpfFiltersTheMaskedFieldRows
  refine fun pm s hclear => ⟨fun hinvalid => exec_of_invalidShape rfl hclear hinvalid (encodeFields_eq_ofNat _ pm),
    fun hvalid hread => ?_⟩
  obtain ⟨t, hexec, hcnt, hmapped⟩ := exec_lpf hclear hvalid hread
  exact ⟨t, hexec, hmapped.frame_and_rows hcnt⟩

/-- Settles O39: the three passes over a row are one operation along each scanline, and its values are samples. -/
theorem lpf3FiltersInThreePasses : Obligations.Lpf3FiltersInThreePasses := by
  unfold Obligations.Lpf3FiltersInThreePasses
  refine fun pm s hclear => ⟨fun hinvalid => exec_of_invalidShape rfl hclear hinvalid (encodeFields_eq_ofNat _ pm),
    fun hvalid hread => ?_⟩
  obtain ⟨t, hexec, hcnt, hmapped⟩ := exec_lpf3 hclear hvalid hread
  exact ⟨t, hexec, hmapped.frame_and_rows hcnt⟩

/-! ### `HPF` (41_filters.md R124) -/

/-- Settles O38: each scanline takes the row minus its low-pass, saturated, and only the planes and the flag change. -/
theorem hpfSubtractsTheLowPass : Obligations.HpfSubtractsTheLowPass := by
  unfold Obligations.HpfSubtractsTheLowPass
  refine fun pm s hclear => ⟨fun hinvalid => exec_of_invalidShape rfl hclear hinvalid (encodeFields_eq_ofNat _ pm),
    fun hvalid hread => ?_⟩
  obtain ⟨u, hu, hdone, hexec⟩ := exec_of_filter (i := .hpf pm)
    (v := fun p r c => s.val p r c - (lpRow s.alpha s.resetValue (s.rowOf p r)).getD c 0) hclear
    (planeCheck_none.mpr hvalid) rfl rfl (fun p r => zipWith_rowOf s p r _ (by simp)) hread
  have hframe : u = { s.withPlanes u with sat := u.sat } :=
    Evolves.eq_withPlanes_sat (i := .hpf pm) hu rfl (by simp)
  have hother : ∀ p, planeSelected pm p = false → u.plane p = s.plane p :=
    fun p hp => Evolves.plane_eq (i := .hpf pm) hu hp
  exact ⟨u.complete, hexec, congrArg State.complete hframe, hdone.sat_iff, fun p =>
    ⟨hother p, fun hp => (hdone.selected hp).congr (u.plane_complete p) u.complete_plW⟩⟩

/-! ### `PREEMPH` (41_filters.md R126) -/

/-- `PREEMPH` is an operation along the scanlines of plane `Y` alone. -/
theorem effectOf_preemph (s : State) :
    effectOf .preemph s = filterPlanes 1#3 (fun p => mapRowSat p (preemphRow s.alpha s.preAmount)) s := by
  have hplanes : maskPlanes 1#3 = [.y] := by decide
  rw [filterPlanes, hplanes, forEach, effectOf]
  cases forEach (mapRowSat .y (preemphRow s.alpha s.preAmount)) s.rows s <;> rfl

theorem planeSelected_y_only {p : Plane} : planeSelected 1#3 p = true ↔ p = .y := by
  cases p <;> decide

/-- Settles O41: each scanline of `Y` takes the row plus its scaled high-pass, saturated, and only `Y` and the flag
change. -/
theorem preemphBoostsTheLuma : Obligations.PreemphBoostsTheLuma := by
  unfold Obligations.PreemphBoostsTheLuma
  refine fun s hclear => ⟨fun hinvalid => exec_of_invalidShape rfl hclear hinvalid rfl, fun hvalid hread => ?_⟩
  obtain ⟨u, hu, hdone, hexec⟩ := exec_of_filter (i := .preemph)
    (v := fun p r c => s.val p r c +
      rdiv ((s.val p r c - (lpRow s.alpha preemphReset (s.rowOf p r)).getD c 0) * s.preAmount) 256) hclear
    (planeCheck_none.mpr hvalid) rfl (effectOf_preemph s) (fun p r => zipWith_rowOf s p r _ (by simp))
    (fun p hp => by rwa [planeSelected_y_only.mp hp])
  have hchroma : ∀ p, p ≠ .y → u.plane p = s.plane p := fun p hp =>
    Evolves.plane_eq (i := .preemph) hu (by simpa [writesPlane] using hp)
  have hi : u.planeI = s.planeI := hchroma .i (by decide)
  have hq : u.planeQ = s.planeQ := hchroma .q (by decide)
  have hframe : u = { s with planeY := u.planeY, sat := u.sat } := by
    calc u = { s.withPlanes u with sat := u.sat } := Evolves.eq_withPlanes_sat (i := .preemph) hu rfl (by decide)
      _ = { s with planeY := u.planeY, sat := u.sat } := by rw [State.withPlanes, hi, hq]
  refine ⟨u.complete, hexec, congrArg State.complete hframe, ?_,
    (hdone.selected rfl).congr (u.plane_complete .y) u.complete_plW⟩
  rw [u.complete_sat, hdone.sat_iff]
  simp only [planeSelected_y_only, exists_eq_left]
  rfl

end Commands

/-! ### Neutral settings (41_filters.md R129) -/

/-- What some rows of a plane become, and that the rest stays, says what the plane holds everywhere. -/
theorem RowsBecome.memGet_unique {rows : List Nat} {s t u : State} {p : Plane} {f : Nat → Nat → Int}
    (ht : RowsBecome rows s t p f) (hu : RowsBecome rows s u p f) (hW : t.plW = u.plW) (k : Nat) :
    memGet (t.plane p) k = memGet (u.plane p) k := by
  have hindex : ∀ r c, t.planeIndex r c = u.planeIndex r c := fun r c => by simp only [State.planeIndex, hW]
  by_cases hk : ∃ r ∈ rows, ∃ c < t.plW.toNat, k = t.planeIndex r c
  · obtain ⟨r, hr, c, hc, rfl⟩ := hk
    have hsame : t.sampleAt p r c = u.sampleAt p r c := (ht.1 r hr c hc).trans (hu.1 r hr c (hW ▸ hc)).symm
    rw [State.sampleAt, State.sampleAt, ← hindex] at hsame
    exact Option.map_injective (fun _ _ => BitVec.eq_of_toInt_eq) hsame
  · have houtside : ∀ r ∈ rows, ∀ c < t.plW.toNat, k ≠ t.planeIndex r c :=
      fun r hr c hc hkc => hk ⟨r, hr, c, hc, hkc⟩
    rw [ht.2 k houtside, hu.2 k (fun r hr c hc => hindex r c ▸ houtside r hr c (hW ▸ hc))]

/-- Where nothing changes, the rows become what they hold. -/
theorem RowsBecome.refl {s : State} {p : Plane} (h : s.fieldReadable p = true) :
    RowsBecome s.rows s s p (s.val p) :=
  ⟨fun _ hr _ hc => State.sampleAt_of_readable (State.rowReadable_of_fieldReadable h hr) hc, fun _ _ => rfl⟩

/-- `PREEMPH` with amount 0 adds 0 to every sample, which clamps none. -/
theorem exec_preemph_zero {s : State} (hclear : s.errCode = 0#8) (hvalid : s.planeShapeValid = true)
    (hamount : s.preAmt = 0#16) (hread : s.fieldReadable .y = true) :
    ∃ t, exec .preemph s = .next t ∧ t = { s with planeY := t.planeY, cmdCnt := s.cmdCnt + 1#32 } ∧
      ∀ k, memGet t.planeY k = memGet s.planeY k := by
  obtain ⟨t, hexec, hframe, hsat, hrows⟩ := (preemphBoostsTheLuma s hclear).2 hvalid hread
  have hadd : ∀ v l : Int, v + rdiv ((v - l) * s.preAmt.toInt) 256 = v := fun v l => by
    have hzero : rdiv 0 256 = 0 := rfl
    simp [hamount, hzero]
  have hnone : ∀ r c, clamps (s.val .y r c) = false := fun r c => clamps_eq_false_of_isSample (s.val_isSample .y r c)
  simp only [hadd, FieldClamps, hnone, Bool.false_eq_true, and_false, exists_false, or_false] at hsat
  simp only [hadd, sat32_of_not_clamps (hnone _ _)] at hrows
  rw [Bool.eq_iff_iff.mpr hsat] at hframe
  have hW : t.plW = s.plW := by rw [hframe]
  exact ⟨t, hexec, hframe, hrows.memGet_unique (.refl hread) hW⟩

/-- A filter command with an empty mask has no scanline. -/
theorem exec_of_noScanline {i : Instr} {s : State} {op : Plane → Nat → State → Except Fault State}
    (hclear : s.errCode = 0#8) (hcheck : checkOf i s = none) (hnoop : isNoop i s = false)
    (heffect : effectOf i s = filterPlanes 0#3 op s) : exec i s = .next s.complete := by
  have hplanes : maskPlanes 0#3 = [] := by decide
  rw [filterPlanes, hplanes] at heffect
  rw [exec_eq_runCommand, hcheck, hnoop, runCommand_effect hclear heffect]

/-- Settles O42: no scanline, an added term of 0, and a row at the end of the range far from the reset value. -/
theorem neutralFilterSettingsChangeNothing : Obligations.NeutralFilterSettingsChangeNothing := by
  unfold Obligations.NeutralFilterSettingsChangeNothing
  refine ⟨fun a v0 _ h1 hlo hhi => exists_lpRow_ne h1 hlo hhi, fun s hclear hvalid => ?_⟩
  have hcheck := planeCheck_none.mpr hvalid
  exact ⟨exec_of_noScanline (i := .lpf 0#3) hclear hcheck rfl rfl,
    exec_of_noScanline (i := .hpf 0#3) hclear hcheck rfl rfl,
    exec_of_noScanline (i := .lpf3 0#3) hclear hcheck rfl rfl, exec_preemph_zero hclear hvalid⟩

end Sys2Proof.Machine
end

section
/-! PROOFS for 41_filters.md, the cascade (R125): where a filter command stops does not depend on its operation, and
where none stops the operations of commands one after another compose; so three `LPF` do what `LPF3` does. -/

namespace Sys2Proof.Machine

/-! ### Where a filter command stops (10_state.md R55) -/

/-- The fault at which an operation stops, if it does. -/
def stopOf {α : Type} : Except Fault α → Option Fault
  | .ok _ => none
  | .error e => some e

section Stops

variable {s u : State} {pm : BitVec 3} {p : Plane} {r : Nat} {g : List Int → List Int} {e : Fault}

/-- The first sample of a row that nothing has written, if there is one. -/
def State.rowStop (s : State) (p : Plane) (r : Nat) : Option Fault := stopOf (s.readRow p r)

/-- Every location of the planes is written in both states or in neither, and they have the same width. -/
structure SameWritten (s u : State) : Prop where
  plW : u.plW = s.plW
  written : ∀ p k, (memGet (u.plane p) k).isSome = (memGet (s.plane p) k).isSome

theorem stopOf_memGetRun_unwritten {w a : Nat} {m : Memory w} {stop : Nat → Fault} (ha : memGet m a = none)
    (n : Nat) : stopOf (memGetRun m stop a (n + 1)) = some (stop a) := by
  rw [memGetRun, ha]
  rfl

theorem stopOf_memGetRun_written {w a : Nat} {m : Memory w} {stop : Nat → Fault} {v : BitVec w}
    (ha : memGet m a = some v) (n : Nat) :
    stopOf (memGetRun m stop a (n + 1)) = stopOf (memGetRun m stop (a + 1) n) := by
  rw [memGetRun, ha]
  cases memGetRun m stop (a + 1) n <;> rfl

/-- Where a run read stops depends only on which addresses are written. -/
theorem stopOf_memGetRun_congr {w : Nat} {m m' : Memory w} {stop : Nat → Fault}
    (h : ∀ k, (memGet m' k).isSome = (memGet m k).isSome) (a n : Nat) :
    stopOf (memGetRun m' stop a n) = stopOf (memGetRun m stop a n) := by
  induction n generalizing a with
  | zero => rfl
  | succ n ih =>
    cases hm : memGet m a with
    | none =>
      have hm' : memGet m' a = none := by simpa [hm] using h a
      rw [stopOf_memGetRun_unwritten hm, stopOf_memGetRun_unwritten hm']
    | some v =>
      obtain ⟨v', hm'⟩ := Option.isSome_iff_exists.mp ((h a).trans (by rw [hm]; rfl))
      rw [stopOf_memGetRun_written hm, stopOf_memGetRun_written hm', ih]

theorem rowStop_eq_stopOf_memGetRun (s : State) (p : Plane) (r : Nat) :
    s.rowStop p r = stopOf (memGetRun (s.plane p) (Fault.unwrittenSample p) (s.planeIndex r 0) s.plW.toNat) := by
  unfold State.rowStop State.readRow
  cases memGetRun (s.plane p) (Fault.unwrittenSample p) (s.planeIndex r 0) s.plW.toNat <;> rfl

theorem SameWritten.rowStop_eq (h : SameWritten s u) (p : Plane) (r : Nat) : u.rowStop p r = s.rowStop p r := by
  rw [rowStop_eq_stopOf_memGetRun, rowStop_eq_stopOf_memGetRun, State.planeIndex, State.planeIndex, h.plW,
    stopOf_memGetRun_congr (h.written p)]

theorem readable_iff_rowStop : s.rowStop p r = none ↔ s.rowReadable p r = true := by
  refine ⟨fun h => ?_, fun h => by rw [State.rowStop, State.readRow_of_readable h]; rfl⟩
  obtain ⟨e, hx⟩ | ⟨hread, -⟩ := s.readRow_cases p r
  · simp [State.rowStop, hx, stopOf] at h
  · exact hread

theorem readRow_of_rowStop (h : s.rowStop p r = some e) : s.readRow p r = .error e := by
  unfold State.rowStop at h
  cases hx : s.readRow p r with
  | error e' => simpa [hx, stopOf] using h
  | ok xs => simp [hx, stopOf] at h

/-- Replacing a readable row writes only what was written. -/
theorem SameWritten.writeRow (h : SameWritten s u) (hread : u.rowReadable p r = true) {vs : List Int}
    (hlen : vs.length = u.plW.toNat) : SameWritten s (u.writeRow p r vs) where
  plW := (u.setPlane_plW p _).trans h.plW
  written p' k := by
    rw [← h.written p' k]
    by_cases hp : p' = p
    · subst hp
      by_cases hk : ∃ c < u.plW.toNat, k = u.planeIndex r c
      · have hrun := planeIndex_run_iff.mpr hk
        obtain ⟨c, hc, rfl⟩ := hk
        have hold : (memGet (u.plane p') (u.planeIndex r c)).isSome = true := by
          simpa [State.sampleAt] using congrArg Option.isSome (State.sampleAt_of_readable hread hc)
        rw [State.memGet_writeRow, hlen, if_pos hrun, List.getElem?_eq_getElem (by omega), hold]
        rfl
      · rw [State.memGet_writeRow_outside hlen (fun c hc hkc => hk ⟨c, hc, hkc⟩)]
    · rw [u.plane_writeRow_other p p' r vs hp]

/-- An operation on a row stops where the row was not written at the start, and else writes only what was written. -/
theorem mapRow_sameWritten (hg : ∀ xs, (g xs).length = xs.length) (h : SameWritten s u) (hstop : s.rowStop p r = none) :
    ∃ u', mapRow p g r u = .ok u' ∧ SameWritten s u' := by
  have hread : u.rowReadable p r = true := readable_iff_rowStop.mp ((h.rowStop_eq p r).trans hstop)
  refine ⟨u.writeRow p r (g (u.rowOf p r)), ?_, h.writeRow hread ((hg _).trans (u.rowOf_length p r))⟩
  rw [mapRow, State.readRow_of_readable hread]

theorem mapRow_stops (h : SameWritten s u) (hstop : s.rowStop p r = some e) : mapRow p g r u = .error e := by
  rw [mapRow, readRow_of_rowStop ((h.rowStop_eq p r).trans hstop)]

/-- Where what stops an operation is known for each element from the start, the first element that stops it ends the
whole. -/
theorem forEach_of_findSome {α σ : Type} {f : α → σ → Except Fault σ} {stop : α → Option Fault} {P : σ → Prop}
    (hstop : ∀ x u e, P u → stop x = some e → f x u = .error e)
    (hgo : ∀ x u, P u → stop x = none → ∃ u', f x u = .ok u' ∧ P u') {xs : List α} {st : σ} {e : Fault} (h0 : P st)
    (h : xs.findSome? stop = some e) : forEach f xs st = .error e := by
  induction xs generalizing st with
  | nil => simp at h
  | cons x xs ih =>
    rw [List.findSome?_cons] at h
    cases hx : stop x with
    | some e' =>
      obtain rfl : e' = e := by simpa [hx] using h
      simp [forEach, hstop x st e' h0 hx]
    | none =>
      obtain ⟨u, hu, hPu⟩ := hgo x st h0 hx
      simpa [forEach, hu] using ih hPu (by simpa [hx] using h)

/-- The first sample of the scanlines of a filter command that nothing has written, if there is one. -/
def State.filterStop (s : State) (pm : BitVec 3) : Option Fault :=
  (s.scanlines pm).findSome? (fun l => s.rowStop l.1 l.2)

theorem filterPlanes_stops (hg : ∀ xs, (g xs).length = xs.length) (h : s.filterStop pm = some e) :
    filterPlanes pm (fun p => mapRow p g) s = .error e := by
  rw [filterPlanes_eq_forEach]
  exact forEach_of_findSome (stop := fun l : Plane × Nat => s.rowStop l.1 l.2) (P := SameWritten s)
    (fun _ _ _ hu hx => mapRow_stops hu hx) (fun _ _ hu hx => mapRow_sameWritten hg hu hx) ⟨rfl, fun _ _ => rfl⟩ h

theorem fieldReadable_of_filterStop (h : s.filterStop pm = none) (hp : planeSelected pm p = true) :
    s.fieldReadable p = true :=
  List.all_eq_true.mpr (fun r hr => readable_iff_rowStop.mp
    (List.findSome?_eq_none_iff.mp h (p, r) (State.mem_scanlines.mpr ⟨hp, hr⟩)))

/-- A command with no fault latched that passes its check stops where its effect does. -/
theorem exec_of_effect_error {i : Instr} (hclear : s.errCode = 0#8) (hcheck : checkOf i s = none)
    (hnoop : isNoop i s = false) (heffect : effectOf i s = .error e) : exec i s = .fault e := by
  rw [exec_eq_runCommand]
  simp [runCommand, hclear, hcheck, hnoop, heffect]

end Stops

/-! ### Filter commands one after another -/

section Cascade

variable {pm : BitVec 3} {g h : List Int → List Int} {s t u : State} {p : Plane}

/-- Apart from the planes and the count nothing changed. -/
theorem FieldMapped.kept {α : Type} (ht : FieldMapped pm g s t) (part : State → α)
    (hpart : part { s.withPlanes t with cmdCnt := t.cmdCnt } = part s) : part t = part s :=
  (congrArg part ht.frame).trans hpart

theorem FieldMapped.plW_eq (ht : FieldMapped pm g s t) : t.plW = s.plW := ht.kept State.plW rfl

theorem FieldMapped.rows_eq (ht : FieldMapped pm g s t) : t.rows = s.rows := ht.kept State.rows rfl

/-- A field row of a masked plane holds `g` of the old row. -/
theorem FieldMapped.row (hg : ∀ xs, (g xs).length = xs.length) (ht : FieldMapped pm g s t)
    (hp : planeSelected pm p = true) {r : Nat} (hr : r ∈ s.rows) :
    t.rowReadable p r = true ∧ t.rowOf p r = g (s.rowOf p r) := by
  have hsamples : ∀ c < t.plW.toNat, t.sampleAt p r c = some ((g (s.rowOf p r)).getD c 0) := (ht.selected p hp).1 r hr
  refine ⟨List.all_eq_true.mpr (fun c hc => ?_), ?_⟩
  · rw [hsamples c (List.mem_range.mp hc)]
    rfl
  · have hlen : (g (s.rowOf p r)).length = t.plW.toNat := by rw [hg, s.rowOf_length, ht.plW_eq]
    rw [eq_map_range_getD hlen, State.rowOf]
    exact List.map_congr_left (fun c hc => by rw [State.val, hsamples c (List.mem_range.mp hc), Option.getD_some])

theorem FieldMapped.fieldReadable (hg : ∀ xs, (g xs).length = xs.length) (ht : FieldMapped pm g s t)
    (hp : planeSelected pm p = true) : t.fieldReadable p = true :=
  List.all_eq_true.mpr (fun _ hr => (ht.row hg hp (ht.rows_eq ▸ hr)).1)

/-- One operation along the scanlines after another is their composition along the scanlines. -/
theorem FieldMapped.trans (hg : ∀ xs, (g xs).length = xs.length) (ht : FieldMapped pm g s t)
    (hu : FieldMapped pm h t u) : FieldMapped pm (fun xs => h (g xs)) s u where
  frame := by
    calc u = { t.withPlanes u with cmdCnt := u.cmdCnt } := hu.frame
      _ = { s.withPlanes u with cmdCnt := u.cmdCnt } := by rw [ht.frame]; rfl
  unselected p hp := (hu.unselected p hp).trans (ht.unselected p hp)
  selected p hp := by
    obtain ⟨hinside, houtside⟩ := hu.selected p hp
    obtain ⟨-, houtside'⟩ := ht.selected p hp
    rw [ht.rows_eq] at hinside houtside
    refine ⟨fun r hr c hc => ?_, fun k hk => (houtside k hk).trans (houtside' k (fun r hr c hc => ?_))⟩
    · exact (hinside r hr c hc).trans (congrArg (fun xs => some ((h xs).getD c 0)) (ht.row hg hp hr).2)
    · have hindex : t.planeIndex r c = u.planeIndex r c := by simp only [State.planeIndex, hu.plW_eq]
      rw [hindex]
      exact hk r hr c (hu.plW_eq ▸ hc)

/-- An operation along the scanlines determines the state but for the count, where the planes are canonical. -/
theorem FieldMapped.unique (ht : FieldMapped pm g s t) (hu : FieldMapped pm g s u)
    (hcnt : t.cmdCnt = u.cmdCnt) (htwf : ∀ p, memWf (t.plane p) = true) (huwf : ∀ p, memWf (u.plane p) = true) :
    t = u := by
  have hplane : ∀ p, t.plane p = u.plane p := fun p => by
    by_cases hp : planeSelected pm p = true
    · exact memExt (htwf p) (huwf p)
        ((ht.selected p hp).memGet_unique (hu.selected p hp) (ht.plW_eq.trans hu.plW_eq.symm))
    · have hp' : planeSelected pm p = false := by simpa using hp
      rw [ht.unselected p hp', hu.unselected p hp']
  have hplanes : s.withPlanes t = s.withPlanes u := by
    have hy : t.planeY = u.planeY := hplane .y
    have hi : t.planeI = u.planeI := hplane .i
    have hq : t.planeQ = u.planeQ := hplane .q
    rw [State.withPlanes, State.withPlanes, hy, hi, hq]
  calc t = { s.withPlanes t with cmdCnt := t.cmdCnt } := ht.frame
    _ = { s.withPlanes u with cmdCnt := u.cmdCnt } := by rw [hplanes, hcnt]
    _ = u := hu.frame.symm

/-- The count does not matter. -/
theorem FieldMapped.withCmdCnt (ht : FieldMapped pm g s t) (n : Word) :
    FieldMapped pm g s { t with cmdCnt := n } where
  frame := congrArg (fun v : State => { v with cmdCnt := n }) ht.frame
  unselected := ht.unselected
  selected := ht.selected

/-- Every command keeps the canonical form of the planes. -/
theorem exec_planeWf {i : Instr} (hexec : exec i s = .next t) (hwf : ∀ p, memWf (s.plane p) = true) :
    ∀ p, memWf (t.plane p) = true := by
  obtain ⟨-, rfl⟩ | ⟨-, code, -, rfl⟩ | ⟨-, -, u, hu, rfl⟩ := exec_cases hexec
  · exact hwf
  · exact hwf
  · refine hu.keeps (P := fun v => ∀ p, memWf (v.plane p) = true) (fun hstep hv => ?_) ?_
    · cases hstep with
      | writeRow => exact State.memWf_writeRow _ _ _ hv
      | writePixels => exact fun p => (State.plane_setFrame _ _ _ p).symm ▸ hv p
      | noteSat => exact hv
      | setPrng => exact hv
    · exact fun p => (effectStart_kept (fun v => v.plane p) i rfl).symm ▸ hwf p

/-- After `LPF` another `LPF` has the same coefficient and reset value, and completes as well. -/
theorem FieldMapped.exec_lpf_next (hg : ∀ xs, (g xs).length = xs.length) (ht : FieldMapped pm g s t)
    (hclear : s.errCode = 0#8) (hvalid : s.planeShapeValid = true) :
    ∃ u, exec (.lpf pm) t = .next u ∧ u.cmdCnt = t.cmdCnt + 1#32 ∧
      FieldMapped pm (fun xs => lpRow s.alpha s.resetValue (g xs)) s u := by
  obtain ⟨u, hexec, hcnt, hu⟩ := exec_lpf (pm := pm) ((ht.kept State.errCode rfl).trans hclear)
    ((ht.kept State.planeShapeValid rfl).trans hvalid) (fun _ hp => ht.fieldReadable hg hp)
  rw [ht.kept State.alpha rfl, ht.kept State.resetValue rfl] at hu
  exact ⟨u, hexec, hcnt, ht.trans hg hu⟩

/-- Three `LPF` where every scanline is readable. -/
theorem execAll_lpf_of_readable (hclear : s.errCode = 0#8) (hvalid : s.planeShapeValid = true)
    (hwf : ∀ p, memWf (s.plane p) = true) (hread : ∀ p, planeSelected pm p = true → s.fieldReadable p = true) :
    ∃ t, execAll [.lpf pm, .lpf pm, .lpf pm] s = .next t ∧ t.cmdCnt = s.cmdCnt + 3#32 ∧
      FieldMapped pm (lp3Row s.alpha s.resetValue) s t ∧ ∀ p, memWf (t.plane p) = true := by
  obtain ⟨t1, hexec1, hcnt1, h1⟩ := exec_lpf (pm := pm) hclear hvalid hread
  obtain ⟨t2, hexec2, hcnt2, h2⟩ := h1.exec_lpf_next (length_lpRow _ _) hclear hvalid
  obtain ⟨t3, hexec3, hcnt3, h3⟩ := h2.exec_lpf_next (by simp) hclear hvalid
  refine ⟨t3, by simp only [execAll, hexec1, hexec2, hexec3], ?_, h3,
    exec_planeWf hexec3 (exec_planeWf hexec2 (exec_planeWf hexec1 hwf))⟩
  rw [hcnt3, hcnt2, hcnt1, BitVec.add_assoc, BitVec.add_assoc]
  rfl

/-- Settles O40: at the first unwritten sample both stop, and where there is none both leave the three passes along
every scanline of canonical planes. -/
theorem lpf3EqualsThreeLpf : Obligations.Lpf3EqualsThreeLpf := by
  unfold Obligations.Lpf3EqualsThreeLpf
  intro pm s hclear hvalid hwf
  have hcheck := planeCheck_none.mpr hvalid
  cases hstop : s.filterStop pm with
  | some e =>
    have hlpf : exec (.lpf pm) s = .fault e :=
      exec_of_effect_error hclear hcheck rfl (filterPlanes_stops (length_lpRow _ _) hstop)
    have hlpf3 : exec (.lpf3 pm) s = .fault e :=
      exec_of_effect_error hclear hcheck rfl (filterPlanes_stops (length_lp3Row _ _) hstop)
    simp only [execAll, hlpf, hlpf3, mapNext]
  | none =>
    have hread : ∀ p, planeSelected pm p = true → s.fieldReadable p = true :=
      fun p hp => fieldReadable_of_filterStop hstop hp
    obtain ⟨t, hexec, hcnt, ht, htwf⟩ := execAll_lpf_of_readable hclear hvalid hwf hread
    obtain ⟨u, hexec3, hcnt3, hu⟩ := exec_lpf3 (pm := pm) hclear hvalid hread
    have huwf : ∀ p, memWf (u.plane p) = true := exec_planeWf hexec3 hwf
    have hcount : t.cmdCnt = u.cmdCnt + 2#32 := by
      rw [hcnt, hcnt3, BitVec.add_assoc]
      rfl
    rw [hexec, hexec3, mapNext, ht.unique (hu.withCmdCnt _) hcount htwf huwf]

end Cascade

end Sys2Proof.Machine
end

section
/-! PROOFS for 42_subcarrier.md, the arithmetic of one scanline: its phase (R141), the scaled carrier (R142, R143), and
the rows that `C2L` (R143) and `L2C` (R144, R145) compute from it, column by column. -/

namespace Sys2Proof.Machine

/-! ### The scanline phase (42_subcarrier.md R141) -/

/-- Bit 1 of a number below 4 says whether it is one of the upper two. -/
theorem land_two_of_lt_four {n : Nat} (h : n < 4) : n &&& 2 = if n < 2 then 0 else 2 := by
  interval_cases n <;> rfl

/-- In mode 3 the phase retreats by the number of the scanline within its field. -/
theorem State.xi_of_mode_three {s : State} (h : s.phaseMode = 3#3) (y : Nat) :
    s.xi y = fmod ((s.fieldNo.toNat : Int) + s.phaseOffset.toNat - (y / 2 : Nat)) 4 := by
  simp [State.xi, h]

/-- Settles O30: each mode has its own formula; that of mode 2 picks bit 1 of a number below 4, and that of mode 3 is
a floor remainder. -/
theorem scanlinePhaseOfEachMode : Obligations.ScanlinePhaseOfEachMode := by
  unfold Obligations.ScanlinePhaseOfEachMode
  refine fun s y => ⟨s.xi_lt y, fun h0 => ?_, fun h1 => ?_, fun h2 => ?_, fun h3 => ?_⟩
  · simp [State.xi, h0]
  · simp [State.xi, h1]
  · have hbit := land_two_of_lt_four (Nat.mod_lt (s.fieldNo.toNat + y) (by decide : 0 < 4))
    simp [State.xi, h2, hbit]
  · rw [State.xi_of_mode_three h3, fmod]
    omega

/-! ### The scaled carrier (42_subcarrier.md R142, R143) -/

theorem mod_four_cases (ph : Nat) : ph % 4 = 0 ∨ ph % 4 = 1 ∨ ph % 4 = 2 ∨ ph % 4 = 3 := by omega

/-- The carrier sample at a phase counted without wrapping. -/
theorem car_mod_four (i q : Int) (ph : Nat) : car i q (ph % 4) =
    if ph % 4 = 0 then i else if ph % 4 = 1 then q else if ph % 4 = 2 then -i else -q := by
  obtain h | h | h | h := mod_four_cases ph
  all_goals simp [h, car, carU, carV]

/-- What `C2L` adds to the luma where the chroma is `i`, `q` and the phase, counted without wrapping, is `ph`. -/
def scaledCar (i q a : Int) (ph : Nat) : Int := tdiv (car i q (ph % 4) * a) 50

/-- Half a period further on, the scaled carrier has the opposite sign. -/
theorem scaledCar_add_two (i q a : Int) (ph : Nat) : scaledCar i q a (ph + 2) = -scaledCar i q a ph := by
  have hcar : car i q ((ph + 2) % 4) = -car i q (ph % 4) := by
    rw [car_mod_four, car_mod_four]
    obtain h | h | h | h := mod_four_cases ph
    all_goals simp [h, Nat.add_mod]
  rw [scaledCar, hcar, Int.neg_mul, tdiv_neg, scaledCar]

/-- Four consecutive samples of the scaled carrier sum to 0. -/
theorem scaledCar_period_sum (i q a : Int) (ph : Nat) :
    scaledCar i q a ph + scaledCar i q a (ph + 1) + scaledCar i q a (ph + 2) + scaledCar i q a (ph + 3) = 0 := by
  rw [scaledCar_add_two i q a ph, scaledCar_add_two i q a (ph + 1)]
  ring

/-! ### The row that `C2L` computes (42_subcarrier.md R143) -/

/-- The carrier at row `r`, column `c`. -/
def State.carrier (s : State) (r c : Nat) : Int :=
  if (c + s.xi r) % 4 = 0 then s.val .i r c else if (c + s.xi r) % 4 = 1 then s.val .q r c
  else if (c + s.xi r) % 4 = 2 then -s.val .i r c else -s.val .q r c

/-- The composite luma at row `r`, column `c`, before saturation. -/
def State.composite (s : State) (r c : Nat) : Int := s.val .y r c + tdiv (s.carrier r c * s.scAmpl.toNat) 50

theorem State.composite_eq_scaledCar (s : State) (r c : Nat) :
    s.composite r c = s.val .y r c + scaledCar (s.val .i r c) (s.val .q r c) s.scAmpl.toNat (c + s.xi r) := by
  rw [State.composite, State.carrier, scaledCar, car_mod_four]

/-- Along a row the phase advances with the column. -/
theorem c2lFrom_eq_mapIdx (a : Int) (k x : Nat) (ts : List (Int × Int × Int)) :
    c2lFrom a k x ts = ts.mapIdx (fun j t => t.1 + scaledCar t.2.1 t.2.2 a (x + j + k)) := by
  induction ts generalizing x with
  | nil => rfl
  | cons t ts ih =>
    rw [c2lFrom, ih, List.mapIdx_cons]
    simp only [Nat.add_zero, Nat.add_assoc, Nat.add_comm 1]
    rfl

theorem c2lFrom_rowOf (s : State) (r : Nat) :
    c2lFrom s.scAmpl.toNat (s.xi r) 0 ((s.rowOf .y r).zip ((s.rowOf .i r).zip (s.rowOf .q r))) =
      (List.range s.plW.toNat).map (s.composite r) := by
  rw [c2lFrom_eq_mapIdx]
  refine List.ext_getElem (by simp) (fun c _ _ => ?_)
  simp [State.rowOf, State.composite_eq_scaledCar]

/-! ### The rows that `L2C` computes (42_subcarrier.md R144, R145) -/

/-- A row given by its columns reads 0 outside them. -/
theorem rowAt_map_range (n : Nat) (f : Nat → Int) (j : Int) :
    rowAt ((List.range n).map f) j = if 0 ≤ j ∧ j < n then f j.toNat else 0 := by
  unfold rowAt
  by_cases hneg : j < 0
  · rw [if_pos hneg, if_neg (by omega)]
  rw [if_neg hneg, List.getD_eq_getElem?_getD, List.getElem?_map]
  by_cases hin : j < n
  · rw [if_pos (by omega), List.getElem?_range (by omega)]
    rfl
  · rw [if_neg (by omega), List.getElem?_eq_none (by simp; omega)]
    rfl

theorem rowAt_rowOf (s : State) (r : Nat) (j : Int) : rowAt (s.rowOf .y r) j = s.lumaAt r j :=
  rowAt_map_range _ _ j

theorem combLuma_rowOf (s : State) (r x : Nat) : combLuma (s.rowOf .y r) x = s.smoothed r x := by
  simp only [combLuma, State.smoothed, rowAt_rowOf]

theorem combFlipped_rowOf (s : State) (r x : Nat) : combFlipped (s.rowOf .y r) (s.xi r) x = s.ripple r x := by
  have hphase : (x + s.xi r) % 4 < 2 ↔ ((x : Int) + s.xi r) % 4 = 0 ∨ ((x : Int) + s.xi r) % 4 = 1 := by omega
  simp only [combFlipped, combResidual, State.ripple, combLuma_rowOf, rowAt_rowOf, hphase]

/-- The row `e` of the decoder. -/
def State.chromaOf (s : State) (r : Nat) : List Int := chromaRow (s.rowOf .y r) (s.xi r) s.scAmpl.toNat

@[simp] theorem State.chromaOf_length (s : State) (r : Nat) : (s.chromaOf r).length = s.plW.toNat := by
  simp [State.chromaOf]

theorem rowAt_chromaOf (s : State) (r : Nat) (j : Int) : rowAt (s.chromaOf r) j = s.rescaled r j := by
  rw [State.chromaOf, chromaRow, rowAt_map_range, State.rowOf_length, State.rescaled]
  refine if_ctx_congr Iff.rfl (fun hj => ?_) (fun _ => rfl)
  rw [combScaled, combFlipped_rowOf, Int.toNat_of_nonneg hj.1]

theorem evenChroma_chromaOf (s : State) (r shift x : Nat) :
    evenChroma (s.chromaOf r) shift x = s.decodedEven r shift x := by
  rw [evenChroma, rowAt_chromaOf, State.decodedEven]

theorem evenChromaAt_chromaOf (s : State) (r shift x : Nat) :
    evenChromaAt (s.chromaOf r) shift x = s.decodedEvenAt r shift x := by
  rw [evenChromaAt, evenChroma_chromaOf, State.chromaOf_length, State.decodedEvenAt]

theorem lumaRow_rowOf (s : State) (r : Nat) :
    lumaRow (s.rowOf .y r) = (List.range s.plW.toNat).map (fun c : Nat => s.smoothed r c) := by
  rw [lumaRow, State.rowOf_length]
  exact List.map_congr_left (fun c _ => combLuma_rowOf s r c)

theorem decodedChroma_chromaOf (s : State) (r shift : Nat) :
    decodedChroma (s.chromaOf r) shift = (List.range s.plW.toNat).map (s.decoded r shift) := by
  simp only [decodedChroma, State.chromaOf_length, evenChromaAt_chromaOf]
  rfl

theorem decodedClamps_chromaOf (s : State) (r shift : Nat) : decodedClamps (s.chromaOf r) shift = true ↔
    ∃ c < s.plW.toNat, c % 2 = 0 ∧ clamps (s.decodedEven r shift c) = true := by
  simp only [decodedClamps, State.chromaOf_length, evenChroma_chromaOf, List.any_eq_true, List.mem_range,
    Bool.and_eq_true, beq_iff_eq]

/-! ### The decoded values are samples (42_subcarrier.md R145) -/

theorem isSample_zero : IsSample 0 := ⟨by decide, by decide⟩

theorem State.lumaAt_isSample (s : State) (r : Nat) (j : Int) : IsSample (s.lumaAt r j) := by
  unfold State.lumaAt
  split
  · exact s.val_isSample .y r _
  · exact isSample_zero

/-- The mean of four samples needs no saturation. -/
theorem State.smoothed_isSample (s : State) (r : Nat) (x : Int) : IsSample (s.smoothed r x) := by
  obtain ⟨hlo0, hhi0⟩ := s.lumaAt_isSample r (x - 1)
  obtain ⟨hlo1, hhi1⟩ := s.lumaAt_isSample r x
  obtain ⟨hlo2, hhi2⟩ := s.lumaAt_isSample r (x + 1)
  obtain ⟨hlo3, hhi3⟩ := s.lumaAt_isSample r (x + 2)
  exact fdiv_mem_Icc (by decide) (by omega) (by omega)

theorem State.decodedEvenAt_isSample (s : State) (r shift x : Nat) : IsSample (s.decodedEvenAt r shift x) := by
  unfold State.decodedEvenAt
  split
  · exact sat32_range _
  · exact isSample_zero

/-- The mean of two samples needs no saturation. -/
theorem State.decoded_isSample (s : State) (r shift x : Nat) : IsSample (s.decoded r shift x) := by
  unfold State.decoded
  split
  · exact s.decodedEvenAt_isSample r shift x
  · obtain ⟨hlo0, hhi0⟩ := s.decodedEvenAt_isSample r shift (x - 1)
    obtain ⟨hlo1, hhi1⟩ := s.decodedEvenAt_isSample r shift (x + 1)
    exact fdiv_mem_Icc (by decide) (by omega) (by omega)

end Sys2Proof.Machine
end

section
/-! PROOFS for 42_subcarrier.md, the two commands: what a command does that works on the field rows one after another
and writes all three planes (R140), and from it the checks, the effect, the flag and the frame of `C2L` (R143) and
`L2C` (R144, R145). -/

namespace Sys2Proof.Machine

/-! ### A command that completed -/

/-- What an operation establishes for the elements done so far holds for all of them, where the whole answers. -/
theorem forEach_establishes {α σ : Type} {f : α → σ → Except Fault σ} {P : List α → σ → Prop} {xs : List α}
    {st st' : σ} (h : forEach f xs st = .ok st')
    (hstep : ∀ done x rest, xs = done ++ x :: rest → ∀ u u', P done u → f x u = .ok u' → P (done ++ [x]) u')
    (h0 : P [] st) : P xs st' := by
  induction xs generalizing st P with
  | nil =>
    obtain rfl : st = st' := by simpa [forEach] using h
    exact h0
  | cons x xs ih =>
    cases hx : f x st with
    | error e => simp [forEach, hx] at h
    | ok u =>
      exact ih (P := fun done => P (x :: done)) (by simpa [forEach, hx] using h)
        (fun done y rest hxs => hstep (x :: done) y rest (congrArg (x :: ·) hxs)) (hstep [] x xs rfl st u h0 hx)

/-- A command that passed its check and is no no-op answers what its effect answers, counted. -/
theorem effect_of_exec_next {i : Instr} {s t : State} (hclear : s.errCode = 0#8) (hcheck : checkOf i s = none)
    (hnoop : isNoop i s = false) (h : exec i s = .next t) : ∃ u, effectOf i s = .ok u ∧ t = u.complete := by
  rw [exec_eq_runCommand, hcheck, hnoop] at h
  obtain ⟨hlatched, -⟩ | ⟨-, code, hcode, -⟩ | ⟨-, -, htrue, -⟩ | ⟨-, -, -, heffect⟩ := runCommand_cases h
  · exact absurd hclear hlatched
  · cases hcode
  · cases htrue
  · exact heffect

theorem EffectStep.sampleAt_isSome {i : Instr} {s t : State} {p : Plane} {r c : Nat} (h : EffectStep i s t)
    (hs : (s.sampleAt p r c).isSome = true) : (t.sampleAt p r c).isSome = true := by
  have hindex : t.planeIndex r c = s.planeIndex r c := by
    rw [State.planeIndex, Evolves.plW_eq (.single h), State.planeIndex]
  rw [State.sampleAt, Option.isSome_map, ← Option.ne_none_iff_isSome] at hs ⊢
  rw [hindex]
  exact fun hnone => hs (h.unwritten hnone)

/-- No update makes a readable row unreadable. -/
theorem Evolves.rowReadable {i : Instr} {s t : State} {p : Plane} {r : Nat} (h : Evolves i s t)
    (hs : s.rowReadable p r = true) : t.rowReadable p r = true := by
  unfold State.rowReadable at hs ⊢
  rw [h.plW_eq]
  rw [List.all_eq_true] at hs ⊢
  exact fun c hc => h.keeps (P := fun u => (u.sampleAt p r c).isSome = true) EffectStep.sampleAt_isSome (hs c hc)

theorem State.nodup_rows (s : State) : s.rows.Nodup := (fieldRows_ascending _ _).imp Nat.ne_of_lt

@[simp] theorem State.writeRows_sat (s : State) (r : Nat) (vs : Plane → List Int) :
    (s.writeRows r vs).sat = s.sat := rfl

/-! ### A command of the codec along the field rows (42_subcarrier.md R140) -/

/-- Two states in which a command of the codec finds the same scanline. -/
structure SameScanline (r : Nat) (s u : State) : Prop where
  plW : u.plW = s.plW
  xi : u.xi r = s.xi r
  scAmpl : u.scAmpl = s.scAmpl
  val : ∀ p, ∀ c < s.plW.toNat, u.val p r c = s.val p r c

/-- A command of the codec: the operation on one scanline with the planes it reads, the values it leaves in the three
planes and whether one of the values that it saturates is clamped, each computed from the scanline alone. -/
structure CodecCommand where
  instr : Instr
  row : Nat → State → Except Fault State
  reads : Plane → Bool
  values : State → Plane → Nat → Nat → Int
  Clamped : State → Nat → Prop
  instr_eq : instr = .c2l ∨ instr = .l2c
  effect_eq : ∀ s, effectOf instr s = forEach row s.rows s
  row_answers : ∀ {r s}, (∀ p, reads p = true → s.rowReadable p r = true) → ∃ t, row r s = .ok t
  row_ok : ∀ {r s t}, row r s = .ok t → ∃ b : Bool, (b = true ↔ Clamped s r) ∧
    t = (s.writeRows r (fun p => (List.range s.plW.toNat).map (values s p r))).noteSat b
  row_runs : ∀ {r s}, r < s.plH.toNat → RunsFrom instr s (row r s)
  values_isSample : ∀ s p r c, IsSample (values s p r c)
  values_congr : ∀ {r s u}, SameScanline r s u → ∀ p, ∀ c < s.plW.toNat, values u p r c = values s p r c
  clamped_congr : ∀ {r s u}, SameScanline r s u → (Clamped u r ↔ Clamped s r)

section Codec

variable {d : CodecCommand} {s t u u' : State} {done : List Nat} {r : Nat}

/-- What the two commands have in common: the check, and that they change the planes and the flag alone. -/
theorem CodecCommand.permissions (d : CodecCommand) (s : State) : checkOf d.instr s = codecCheck s ∧
    drawsNoise d.instr = false ∧ d.instr ≠ .fromyiq := by
  rcases d.instr_eq with h | h
  · exact h ▸ ⟨rfl, rfl, by decide⟩
  · exact h ▸ ⟨rfl, rfl, by decide⟩

/-- The scanlines that are done hold the values computed from the state in which the command began, and the flag says
whether one of those was clamped. -/
structure CodecCommand.Done (d : CodecCommand) (s : State) (done : List Nat) (u : State) : Prop where
  evolves : Evolves d.instr s u
  planes : ∀ p, RowsBecome done s u p (d.values s p)
  sat : u.sat = true ↔ s.sat = true ∨ ∃ r ∈ done, d.Clamped s r

/-- A scanline that is not done yet is as it was. -/
theorem CodecCommand.Done.sameScanline (h : d.Done s done u) (hnew : r ∉ done) : SameScanline r s u where
  plW := h.evolves.plW_eq
  xi := h.evolves.kept (fun v => v.xi r) rfl
  scAmpl := h.evolves.kept State.scAmpl rfl
  val p c hc := by
    have hW := h.evolves.plW_eq
    rw [State.val, (h.planes p).sampleAt_of_not_mem hW hnew (hW.symm ▸ hc), State.val]

/-- One more scanline takes the values computed from it as it was when the command began. -/
theorem CodecCommand.Done.next (h : d.Done s done u) (hr : r ∈ s.rows) (hnew : r ∉ done)
    (hrow : d.row r u = .ok u') : d.Done s (done ++ [r]) u' := by
  have hsame := h.sameScanline hnew
  have hruns := d.row_runs (State.row_lt hr h.evolves)
  rw [hrow] at hruns
  obtain ⟨b, hb, rfl⟩ := d.row_ok hrow
  refine ⟨h.evolves.trans hruns, fun p => ?_, ?_⟩
  · refine ((h.planes p).writeRows ?_ (fun c _ => d.values_isSample s p r c)).congr (State.plane_noteSat _ b p) rfl
    exact List.map_congr_left (fun c hc =>
      d.values_congr hsame p c (by rwa [← hsame.plW, ← List.mem_range]))
  · rw [State.noteSat_sat, State.writeRows_sat, Bool.or_eq_true, h.sat, hb, d.clamped_congr hsame, or_assoc]
    simp only [List.mem_append, List.mem_singleton, or_and_right, exists_or, exists_eq_left]

/-- The first state after a command of the codec, with the planes and the flag of the second. -/
def State.withCodecResults (s t : State) : State :=
  { s with planeY := t.planeY, planeI := t.planeI, planeQ := t.planeQ, sat := t.sat, cmdCnt := s.cmdCnt + 1#32 }

/-- What a command of the codec leaves behind that passed its check and is no no-op. -/
structure CodecCommand.Completed (d : CodecCommand) (s t : State) : Prop where
  frame : t = s.withCodecResults t
  sat : t.sat = true ↔ s.sat = true ∨ ∃ r ∈ s.rows, d.Clamped s r
  planes : ∀ p, RowsBecome s.rows s t p (d.values s p)

/-- A part of the state apart from the planes, the flag and the count reads as before. -/
theorem CodecCommand.Completed.kept {α : Type} (h : d.Completed s t) (part : State → α)
    (hpart : part (s.withCodecResults t) = part s) : part t = part s := (congrArg part h.frame).trans hpart

theorem CodecCommand.completed_of_next (hclear : s.errCode = 0#8) (hcheck : codecCheck s = none)
    (hnoop : isNoop d.instr s = false) (h : exec d.instr s = .next t) : d.Completed s t := by
  obtain ⟨hcheckOf, hdraws, hne⟩ := d.permissions s
  obtain ⟨u, heffect, rfl⟩ := effect_of_exec_next hclear (hcheckOf.trans hcheck) hnoop h
  rw [d.effect_eq] at heffect
  have hdone : d.Done s s.rows u := by
    refine forEach_establishes (P := d.Done s) heffect (fun done r rest hrows v v' hv hrow => ?_)
      ⟨.refl, fun p => .nil s p _ rfl, by simp⟩
    have hnew : r ∉ done := fun hmem =>
      List.disjoint_of_nodup_append (hrows ▸ s.nodup_rows) hmem List.mem_cons_self
    exact hv.next (by simp [hrows]) hnew hrow
  have hframe : u = { s.withPlanes u with sat := u.sat } := hdone.evolves.eq_withPlanes_sat hdraws hne
  exact ⟨congrArg State.complete hframe, hdone.sat, fun p => (hdone.planes p).congr (u.plane_complete p) rfl⟩

/-- Where the field rows that it reads are written, a command of the codec completes. -/
theorem CodecCommand.completes (hclear : s.errCode = 0#8) (hcheck : codecCheck s = none)
    (hnoop : isNoop d.instr s = false) (hread : ∀ p, d.reads p = true → s.fieldReadable p = true) :
    ∃ t, exec d.instr s = .next t ∧ d.Completed s t := by
  have hcheckOf := (d.permissions s).1
  obtain ⟨u, hu, -⟩ : ∃ u, forEach d.row s.rows s = .ok u ∧ Evolves d.instr s u := by
    refine forEach_answers (fun r hr v hv => ?_) .refl
    obtain ⟨v', hv'⟩ := d.row_answers (fun p hp =>
      hv.rowReadable (State.rowReadable_of_fieldReadable (hread p hp) hr))
    have hruns := d.row_runs (State.row_lt hr hv)
    rw [hv'] at hruns
    exact ⟨v', hv', hv.trans hruns⟩
  have hexec : exec d.instr s = .next u.complete := by
    rw [exec_eq_runCommand, hcheckOf, hcheck, hnoop, runCommand_effect hclear ((d.effect_eq s).trans hu)]
  exact ⟨_, hexec, completed_of_next hclear hcheck hnoop hexec⟩

theorem codecCheck_of_invalid (h : s.planeShapeValid = false ∨ 3 < s.phaseMode.toNat) :
    codecCheck s = some .invalidArg := by
  rcases h with hshape | hmode
  · simp [codecCheck, hshape]
  · simp [codecCheck, hmode]

end Codec

/-! ### `C2L` (42_subcarrier.md R143) -/

/-- What `C2L` leaves at row `r`, column `c` of a plane. -/
def State.encoded (s : State) : Plane → Nat → Nat → Int
  | .y, r, c => sat32 (s.composite r c)
  | .i, _, _ => 0
  | .q, _, _ => 0

theorem SameScanline.composite_eq {r : Nat} {s u : State} (h : SameScanline r s u) {c : Nat} (hc : c < s.plW.toNat) :
    u.composite r c = s.composite r c := by
  simp only [State.composite_eq_scaledCar, h.val _ c hc, h.xi, h.scAmpl]

theorem c2lRow_of_readable {r : Nat} {s : State} (h : ∀ p, s.rowReadable p r = true) : ∃ t, c2lRow r s = .ok t := by
  simp only [c2lRow, State.readRow_of_readable (h _)]
  exact ⟨_, rfl⟩

theorem c2lRow_eq_writeRows {r : Nat} {s t : State} (h : c2lRow r s = .ok t) :
    t = (s.writeRows r (fun p => (List.range s.plW.toNat).map (s.encoded p r))).noteSat
      (((List.range s.plW.toNat).map (s.composite r)).any clamps) := by
  obtain ⟨-, rfl⟩ := c2lRow_ok h
  have hzeros : List.replicate s.plW.toNat (0 : Int) = (List.range s.plW.toNat).map (fun _ => 0) := by simp
  rw [c2lFrom_rowOf, hzeros, State.writeRowSat, List.map_map]
  rfl

/-- `C2L` as a command along the field rows, which reads all three planes. -/
def c2lCommand : CodecCommand where
  instr := .c2l
  row := c2lRow
  reads _ := true
  values := State.encoded
  Clamped s r := ∃ c < s.plW.toNat, clamps (s.composite r c) = true
  instr_eq := .inl rfl
  effect_eq _ := rfl
  row_answers h := c2lRow_of_readable (fun p => h p rfl)
  row_ok h := ⟨_, by simp, c2lRow_eq_writeRows h⟩
  row_runs := c2lRow_runs
  values_isSample s p r c := by
    cases p with
    | y => exact sat32_range _
    | i => exact isSample_zero
    | q => exact isSample_zero
  values_congr h p c hc := by
    cases p with
    | y => exact congrArg sat32 (h.composite_eq hc)
    | i => rfl
    | q => rfl
  clamped_congr h := by
    rw [h.plW]
    exact exists_congr (fun c => and_congr_right (fun hc => by rw [h.composite_eq hc]))

/-- Settles O45: the scaled carrier changes its sign with half a period; and `C2L` is one operation along the field
rows, whose values are computed from the scanline alone. -/
theorem c2lPutsChromaIntoLuma : Obligations.C2lPutsChromaIntoLuma := by
  unfold Obligations.C2lPutsChromaIntoLuma
  refine ⟨scaledCar_period_sum, fun s hclear =>
    ⟨fun hinvalid => exec_of_check_some (i := .c2l) hclear (codecCheck_of_invalid hinvalid),
      fun hvalid hmode hread => ?_⟩⟩
  obtain ⟨t, hexec, hdone⟩ := c2lCommand.completes hclear (codecCheck_none.mpr ⟨hvalid, hmode⟩) rfl
    (fun p _ => hread p)
  exact ⟨t, hexec, hdone.frame, hdone.sat, hdone.planes .y, hdone.planes .i, hdone.planes .q⟩

/-! ### `L2C` (42_subcarrier.md R144, R145) -/

/-- What `L2C` leaves at row `r`, column `c` of a plane. -/
def State.demodulated (s : State) : Plane → Nat → Nat → Int
  | .y, r, c => s.smoothed r c
  | .i, r, c => s.decoded r (s.xi r) c
  | .q, r, c => s.decoded r (s.xi r + 1) c

/-- A chroma value that `L2C` saturates on a scanline is clamped. -/
def State.DecoderClamps (s : State) (r : Nat) : Prop :=
  ∃ c < s.plW.toNat, c % 2 = 0 ∧
    (clamps (s.decodedEven r (s.xi r) c) = true ∨ clamps (s.decodedEven r (s.xi r + 1) c) = true)

section SameScanline

variable {r : Nat} {s u : State}

theorem SameScanline.lumaAt_eq (h : SameScanline r s u) (j : Int) : u.lumaAt r j = s.lumaAt r j := by
  rw [State.lumaAt, State.lumaAt, h.plW]
  exact if_ctx_congr Iff.rfl (fun hj => h.val .y _ (by omega)) (fun _ => rfl)

theorem SameScanline.smoothed_eq (h : SameScanline r s u) (x : Int) : u.smoothed r x = s.smoothed r x := by
  simp only [State.smoothed, h.lumaAt_eq]

theorem SameScanline.decodedEven_eq (h : SameScanline r s u) (shift x : Nat) :
    u.decodedEven r shift x = s.decodedEven r shift x := by
  simp only [State.decodedEven, State.rescaled, State.ripple, h.smoothed_eq, h.lumaAt_eq, h.xi, h.plW, h.scAmpl]

theorem SameScanline.decoded_eq (h : SameScanline r s u) (shift x : Nat) :
    u.decoded r shift x = s.decoded r shift x := by
  simp only [State.decoded, State.decodedEvenAt, h.decodedEven_eq, h.plW]

end SameScanline

theorem l2cRow_of_readable {r : Nat} {s : State} (h : s.rowReadable .y r = true) : ∃ t, l2cRow r s = .ok t := by
  simp only [l2cRow, State.readRow_of_readable h]
  exact ⟨_, rfl⟩

theorem l2cRow_eq_writeRows {r : Nat} {s t : State} (h : l2cRow r s = .ok t) :
    t = (s.writeRows r (fun p => (List.range s.plW.toNat).map (s.demodulated p r))).noteSat
      (decodedClamps (s.chromaOf r) (s.xi r) || decodedClamps (s.chromaOf r) (s.xi r + 1)) := by
  obtain ⟨-, e, rfl, rfl⟩ := l2cRow_ok h
  rw [← State.chromaOf, lumaRow_rowOf, decodedChroma_chromaOf, decodedChroma_chromaOf]
  rfl

theorem decoderClamps_iff (s : State) (r : Nat) :
    (decodedClamps (s.chromaOf r) (s.xi r) || decodedClamps (s.chromaOf r) (s.xi r + 1)) = true ↔
      s.DecoderClamps r := by
  simp only [Bool.or_eq_true, decodedClamps_chromaOf, State.DecoderClamps, and_or_left, exists_or]

/-- `L2C` as a command along the field rows, which reads the luma alone. -/
def l2cCommand : CodecCommand where
  instr := .l2c
  row := l2cRow
  reads p := p == .y
  values := State.demodulated
  Clamped := State.DecoderClamps
  instr_eq := .inr rfl
  effect_eq _ := rfl
  row_answers h := l2cRow_of_readable (h .y rfl)
  row_ok h := ⟨_, decoderClamps_iff _ _, l2cRow_eq_writeRows h⟩
  row_runs := l2cRow_runs
  values_isSample s p r c := by
    cases p with
    | y => exact s.smoothed_isSample r c
    | i => exact s.decoded_isSample r _ c
    | q => exact s.decoded_isSample r _ c
  values_congr h p c _ := by
    cases p with
    | y => exact h.smoothed_eq c
    | i => rw [State.demodulated, h.xi, h.decoded_eq, State.demodulated]
    | q => rw [State.demodulated, h.xi, h.decoded_eq, State.demodulated]
  clamped_congr h := by
    simp only [State.DecoderClamps, h.decodedEven_eq, h.xi, h.plW]

/-- Settles O46: `L2C` is one operation along the field rows, whose values are computed from the luma of the scanline
alone; at amplitude 0 it is a no-op. -/
theorem l2cDecodesTheLuma : Obligations.L2cDecodesTheLuma := by
  unfold Obligations.L2cDecodesTheLuma
  refine fun s hclear => ⟨fun hinvalid => exec_of_check_some (i := .l2c) hclear (codecCheck_of_invalid hinvalid),
    fun hvalid hmode hzero => ?_, fun hvalid hmode hne hread => ?_⟩
  · have hcheck : checkOf .l2c s = none := codecCheck_none.mpr ⟨hvalid, hmode⟩
    have hnoop : isNoop .l2c s = true := beq_iff_eq.mpr hzero
    rw [exec_eq_runCommand, hcheck, hnoop, runCommand_noop hclear]
    rfl
  · obtain ⟨t, hexec, hdone⟩ := l2cCommand.completes hclear (codecCheck_none.mpr ⟨hvalid, hmode⟩)
      (beq_eq_false_iff_ne.mpr hne) (fun p hp => beq_iff_eq.mp hp ▸ hread)
    exact ⟨t, hexec, hdone.frame, hdone.sat, hdone.planes .y, hdone.planes .i, hdone.planes .q⟩

end Sys2Proof.Machine
end

section
/-! PROOFS for 42_subcarrier.md, the round trip of a constant row (R146): the composite luma is a constant plus the
scaled carrier, the decoder's window cancels the carrier, and the ripple that remains is the chroma. -/

namespace Sys2Proof.Machine

/-! ### The loss of the two scalings -/

/-- A chroma value scaled by the encoder and scaled back by the decoder. -/
def twiceScaled (m a : Int) : Int := tdiv (tdiv (m * a) 50 * 50) a

theorem twiceScaled_neg (m a : Int) : twiceScaled (-m) a = -twiceScaled m a := by
  simp only [twiceScaled, Int.neg_mul, tdiv_neg]

theorem tdiv_of_nonneg {v : Int} (h : 0 ≤ v) (n : Int) : tdiv v n = fdiv v n := if_pos h

/-- Both scalings round toward zero. -/
theorem twiceScaled_mem_Icc {m a : Int} (hm : 0 ≤ m) (ha : 0 < a) : 0 ≤ twiceScaled m a ∧ twiceScaled m a ≤ m := by
  have hma : 0 ≤ m * a := Int.mul_nonneg hm ha.le
  have hscaled : 0 ≤ fdiv (m * a) 50 := Int.ediv_nonneg hma (by decide)
  have hback : fdiv (m * a) 50 * 50 ≤ m * a := (fdiv_spec (m * a) (by decide)).1
  rw [twiceScaled, tdiv_of_nonneg hma, tdiv_of_nonneg (by omega)]
  exact fdiv_mem_Icc ha (by omega) hback

theorem twiceScaled_isSample {m a : Int} (h : IsSample m) (ha : 0 < a) : IsSample (twiceScaled m a) := by
  obtain ⟨hlo, hhi⟩ := h
  obtain hm | hm := Int.le_total 0 m
  · obtain ⟨h0, hle⟩ := twiceScaled_mem_Icc hm ha
    exact ⟨isSample_zero.1.trans h0, hle.trans hhi⟩
  · obtain ⟨h0, hle⟩ := twiceScaled_mem_Icc (Int.neg_nonneg_of_nonpos hm) ha
    rw [twiceScaled_neg] at h0 hle
    exact ⟨by omega, le_trans (by omega) isSample_zero.2⟩

/-- The encoder divides by 50 what the decoder multiplies by 50. -/
theorem twiceScaled_fifty (m : Int) : twiceScaled m 50 = m := by
  have hexact : ∀ v : Int, tdiv (v * 50) 50 = v := fun v => by
    unfold tdiv fdiv
    split
    · omega
    · omega
  rw [twiceScaled, hexact, hexact]

/-! ### A scanline that carries constant chroma -/

/-- The chroma value that the decoder finds at a phase: `I` at an even one, `Q` at an odd one. -/
def chromaAtPhase (i q : Int) (ph : Nat) : Int := if ph % 2 = 0 then i else q

/-- In the second half of its period the scaled carrier is that of the first half, negated. -/
theorem scaledCar_of_phase (i q a : Int) (ph : Nat) :
    scaledCar i q a ph =
      if ph % 4 < 2 then tdiv (chromaAtPhase i q ph * a) 50 else -tdiv (chromaAtPhase i q ph * a) 50 := by
  rw [scaledCar, car_mod_four, chromaAtPhase]
  obtain h | h | h | h := mod_four_cases ph
  · simp [h, show ph % 2 = 0 by omega]
  · simp [h, show ph % 2 = 1 by omega]
  · simp [h, show ph % 2 = 0 by omega, tdiv_neg]
  · simp [h, show ph % 2 = 1 by omega, tdiv_neg]

/-- The luma of the scanline is a constant plus the scaled carrier of constant chroma. -/
def CarriesChroma (s : State) (r : Nat) (c0 i0 q0 : Int) : Prop :=
  ∀ x < s.plW.toNat, s.val .y r x = c0 + scaledCar i0 q0 s.scAmpl.toNat (x + s.xi r)

section Decoding

variable {s : State} {r : Nat} {c0 i0 q0 : Int}

theorem CarriesChroma.lumaAt_eq (h : CarriesChroma s r c0 i0 q0) {x : Nat} (hx : x < s.plW.toNat) {j : Int}
    (hj : j = x) : s.lumaAt r j = c0 + scaledCar i0 q0 s.scAmpl.toNat (x + s.xi r) := by
  subst hj
  rw [State.lumaAt, if_pos (by omega), Int.toNat_natCast, h x hx]

/-- Inside the row the window spans one period of the carrier, which cancels. -/
theorem CarriesChroma.smoothed_eq (h : CarriesChroma s r c0 i0 q0) {x : Nat} (hlo : 1 ≤ x)
    (hhi : x + 3 ≤ s.plW.toNat) : s.smoothed r x = c0 := by
  have hperiod := scaledCar_period_sum i0 q0 s.scAmpl.toNat (x - 1 + s.xi r)
  rw [State.smoothed, h.lumaAt_eq (x := x - 1) (by omega) (by omega), h.lumaAt_eq (x := x) (by omega) rfl,
    h.lumaAt_eq (x := x + 1) (by omega) (by omega), h.lumaAt_eq (x := x + 2) (by omega) (by omega)]
  rw [show x + s.xi r = x - 1 + s.xi r + 1 by omega, show x + 1 + s.xi r = x - 1 + s.xi r + 2 by omega,
    show x + 2 + s.xi r = x - 1 + s.xi r + 3 by omega, fdiv]
  omega

/-- The sign flip leaves the chroma of the phase, scaled and negated, in either half of the period. -/
theorem CarriesChroma.ripple_eq (h : CarriesChroma s r c0 i0 q0) {x : Nat} (hlo : 1 ≤ x)
    (hhi : x + 3 ≤ s.plW.toNat) :
    s.ripple r x = -tdiv (chromaAtPhase i0 q0 (x + s.xi r) * s.scAmpl.toNat) 50 := by
  have hphase : (((x : Int) + s.xi r) % 4 = 0 ∨ ((x : Int) + s.xi r) % 4 = 1) ↔ (x + s.xi r) % 4 < 2 := by omega
  have hahead : s.lumaAt r (x + 2) - s.smoothed r x = -scaledCar i0 q0 s.scAmpl.toNat (x + s.xi r) := by
    rw [h.smoothed_eq hlo hhi, h.lumaAt_eq (x := x + 2) (by omega) (by omega), Nat.add_right_comm,
      scaledCar_add_two]
    ring
  rw [State.ripple, hahead, scaledCar_of_phase]
  simp only [hphase]
  split
  · rfl
  · rw [neg_neg]

/-- At an even column inside the row the decoder finds the chroma value of the phase it looks at, saturating none. -/
theorem CarriesChroma.decodedEvenAt_eq (h : CarriesChroma s r c0 i0 q0) (hampl : s.scAmpl ≠ 0#16)
    (hi : IsSample i0) (hq : IsSample q0) {shift x : Nat} (hlo : 1 ≤ x + shift)
    (hhi : x + shift + 3 ≤ s.plW.toNat) : s.decodedEvenAt r shift x =
      twiceScaled (chromaAtPhase i0 q0 (x + shift + s.xi r)) s.scAmpl.toNat := by
  have hpos : (0 : Int) < s.scAmpl.toNat := by
    have hne : s.scAmpl.toNat ≠ 0 := fun hzero => hampl (BitVec.eq_of_toNat_eq hzero)
    omega
  have hsample : IsSample (chromaAtPhase i0 q0 (x + shift + s.xi r)) := by
    unfold chromaAtPhase
    split
    · exact hi
    · exact hq
  have heven : s.decodedEven r shift x =
      twiceScaled (chromaAtPhase i0 q0 (x + shift + s.xi r)) s.scAmpl.toNat := by
    rw [State.decodedEven, State.rescaled, if_pos (by omega), ← Nat.cast_add, h.ripple_eq hlo hhi, Int.neg_mul,
      tdiv_neg, neg_neg, twiceScaled]
  rw [State.decodedEvenAt, if_pos (by omega), heven,
    sat32_of_not_clamps (clamps_eq_false_of_isSample (twiceScaled_isSample hsample hpos))]

/-- Between two even columns inside the row, where the decoder finds the same value, it interpolates that value. -/
theorem CarriesChroma.decoded_eq (h : CarriesChroma s r c0 i0 q0) (hampl : s.scAmpl ≠ 0#16)
    (hi : IsSample i0) (hq : IsSample q0) {shift x : Nat} (hlo : 1 ≤ x - x % 2 + shift)
    (hhi : x + x % 2 + shift + 3 ≤ s.plW.toNat) :
    s.decoded r shift x = twiceScaled (chromaAtPhase i0 q0 (shift + s.xi r)) s.scAmpl.toNat := by
  have hphase : ∀ j, j % 2 = 0 →
      chromaAtPhase i0 q0 (j + shift + s.xi r) = chromaAtPhase i0 q0 (shift + s.xi r) := fun j hj => by
    have hparity : (j + shift + s.xi r) % 2 = (shift + s.xi r) % 2 := by omega
    rw [chromaAtPhase, hparity, chromaAtPhase]
  rw [State.decoded]
  split
  · rw [h.decodedEvenAt_eq hampl hi hq (by omega) (by omega), hphase x (by omega)]
  · rw [h.decodedEvenAt_eq hampl hi hq (by omega) (by omega), h.decodedEvenAt_eq hampl hi hq (by omega) (by omega),
      hphase (x - 1) (by omega), hphase (x + 1) (by omega), fdiv]
    omega

end Decoding

/-! ### The round trip (42_subcarrier.md R146) -/

section RoundTrip

variable {s t : State} {c0 i0 q0 : Int} {y : Nat}

theorem State.val_of_sampleAt {p : Plane} {r c : Nat} {v : Int} (h : s.sampleAt p r c = some v) : s.val p r c = v := by
  rw [State.val, h, Option.getD_some]

theorem State.plW_pos (h : s.planeShapeValid = true) : 0 < s.plW.toNat := by
  simp only [State.planeShapeValid, validWidth, Bool.and_eq_true, decide_eq_true_eq] at h
  exact h.2.1

/-- Where no sum of the encoder is clamped, `C2L` of a constant row leaves a luma that carries its chroma. -/
theorem carriesChroma_of_c2l (hc2l : c2lCommand.Completed s t) (hy : y ∈ s.rows)
    (hrow : ∀ x < s.plW.toNat, s.sampleAt .y y x = some c0 ∧ s.sampleAt .i y x = some i0 ∧ s.sampleAt .q y x = some q0)
    (hsum : ∀ m ∈ [i0, q0, -i0, -q0], clamps (c0 + tdiv (m * s.scAmpl.toNat) 50) = false) :
    CarriesChroma t y c0 i0 q0 := by
  have hW : t.plW = s.plW := hc2l.kept State.plW rfl
  have hxi : t.xi y = s.xi y := hc2l.kept (fun v => v.xi y) rfl
  have hampl : t.scAmpl = s.scAmpl := hc2l.kept State.scAmpl rfl
  intro x hx
  obtain ⟨hluma, hi, hq⟩ := hrow x (hW ▸ hx)
  have hcomposite : s.composite y x = c0 + scaledCar i0 q0 s.scAmpl.toNat (x + s.xi y) := by
    rw [State.composite_eq_scaledCar, State.val_of_sampleAt hluma, State.val_of_sampleAt hi,
      State.val_of_sampleAt hq]
  have hcar : car i0 q0 ((x + s.xi y) % 4) ∈ [i0, q0, -i0, -q0] := by
    rw [car_mod_four]
    split_ifs <;> simp
  have hfits : clamps (c0 + scaledCar i0 q0 s.scAmpl.toNat (x + s.xi y)) = false := hsum _ hcar
  have hsample : t.sampleAt .y y x = some (sat32 (s.composite y x)) := (hc2l.planes .y).1 y hy x hx
  rw [State.val_of_sampleAt hsample, hcomposite, hxi, hampl, sat32_of_not_clamps hfits]

/-- After `L2C` a field row holds what it decodes. -/
theorem sampleAt_of_l2c (hl2c : l2cCommand.Completed s t) (hy : y ∈ s.rows) (p : Plane) {x : Nat}
    (hx : x < s.plW.toNat) : t.sampleAt p y x = some (s.demodulated p y x) := by
  have hW : t.plW = s.plW := hl2c.kept State.plW rfl
  exact (hl2c.planes p).1 y hy x (hW ▸ hx)

theorem CarriesChroma.demodulated_i (h : CarriesChroma s y c0 i0 q0) (hampl : s.scAmpl ≠ 0#16) (hi : IsSample i0)
    (hq : IsSample q0) {x : Nat} (hlo : 1 ≤ x - x % 2 + s.xi y) (hhi : x + x % 2 + s.xi y + 3 ≤ s.plW.toNat) :
    s.demodulated .i y x = twiceScaled i0 s.scAmpl.toNat := by
  rw [State.demodulated, h.decoded_eq hampl hi hq hlo hhi, chromaAtPhase, if_pos (by omega)]

theorem CarriesChroma.demodulated_q (h : CarriesChroma s y c0 i0 q0) (hampl : s.scAmpl ≠ 0#16) (hi : IsSample i0)
    (hq : IsSample q0) {x : Nat} (hhi : x + x % 2 + s.xi y + 4 ≤ s.plW.toNat) :
    s.demodulated .q y x = twiceScaled q0 s.scAmpl.toNat := by
  rw [State.demodulated, h.decoded_eq hampl hi hq (by omega) (by omega), chromaAtPhase, if_neg (by omega)]

/-- What `L2C` returns of a luma that carries constant chroma: the constant and the chroma scaled twice. -/
theorem CarriesChroma.returned_by_l2c (h : CarriesChroma s y c0 i0 q0) (hl2c : l2cCommand.Completed s t)
    (hy : y ∈ s.rows) (hampl : s.scAmpl ≠ 0#16) (hi : IsSample i0) (hq : IsSample q0) :
    (∀ x, 1 ≤ x → x + 3 ≤ s.plW.toNat → t.sampleAt .y y x = some c0) ∧
    (∀ x, 1 ≤ x - x % 2 + s.xi y → x + x % 2 + s.xi y + 3 ≤ s.plW.toNat →
      t.sampleAt .i y x = some (twiceScaled i0 s.scAmpl.toNat)) ∧
    ∀ x, x + x % 2 + s.xi y + 4 ≤ s.plW.toNat → t.sampleAt .q y x = some (twiceScaled q0 s.scAmpl.toNat) := by
  refine ⟨fun x hlo hhi => ?_, fun x hlo hhi => ?_, fun x hhi => ?_⟩
  · rw [sampleAt_of_l2c hl2c hy .y (by omega), State.demodulated, h.smoothed_eq hlo hhi]
  · rw [sampleAt_of_l2c hl2c hy .i (by omega), h.demodulated_i hampl hi hq hlo hhi]
  · rw [sampleAt_of_l2c hl2c hy .q (by omega), h.demodulated_q hampl hi hq hhi]

end RoundTrip

/-- Settles O47: after `C2L` the luma carries the constant chroma, whose carrier the window of `L2C` cancels; `I` is
read at even phases and `Q` at odd ones. -/
theorem constantRowSurvivesTheCodec : Obligations.ConstantRowSurvivesTheCodec := by
  unfold Obligations.ConstantRowSurvivesTheCodec
  intro s s1 s2 c0 i0 q0 y hclear hvalid hmode hampl hy hrow hsum hexec1 hexec2
  have hc2l : c2lCommand.Completed s s1 :=
    CodecCommand.completed_of_next hclear (codecCheck_none.mpr ⟨hvalid, hmode⟩) rfl hexec1
  have hcarries := carriesChroma_of_c2l hc2l hy hrow hsum
  have hl2c : l2cCommand.Completed s1 s2 :=
    CodecCommand.completed_of_next ((hc2l.kept State.errCode rfl).trans hclear)
      ((hc2l.kept codecCheck rfl).trans (codecCheck_none.mpr ⟨hvalid, hmode⟩))
      ((hc2l.kept (isNoop .l2c) rfl).trans (beq_eq_false_iff_ne.mpr hampl)) hexec2
  have hW : s1.plW = s.plW := hc2l.kept State.plW rfl
  have hxi : s1.xi y = s.xi y := hc2l.kept (fun v => v.xi y) rfl
  have ha : s1.scAmpl = s.scAmpl := hc2l.kept State.scAmpl rfl
  obtain ⟨-, hi0, hq0⟩ := hrow 0 (State.plW_pos hvalid)
  have hi : IsSample i0 := State.val_of_sampleAt hi0 ▸ s.val_isSample .i y 0
  have hq : IsSample q0 := State.val_of_sampleAt hq0 ▸ s.val_isSample .q y 0
  obtain ⟨hluma, hchromaI, hchromaQ⟩ := hcarries.returned_by_l2c hl2c (by rwa [hc2l.kept State.rows rfl])
    (ha ▸ hampl) hi hq
  rw [hW] at hluma
  rw [hW, hxi, ha] at hchromaI hchromaQ
  refine ⟨hluma, fun x hx hlo hhi => hchromaI x (by omega) (by omega), fun x hx hhi => hchromaQ x (by omega),
    fun x hx hlo hhi => hchromaI x (by omega) (by omega), fun x hx hhi => hchromaQ x (by omega), fun hfifty => ?_⟩
  have hampl50 : (s.scAmpl.toNat : Int) = 50 := by rw [hfifty]; rfl
  rw [hampl50]
  exact ⟨twiceScaled_fifty i0, twiceScaled_fifty q0⟩

end Sys2Proof.Machine
end

section
/-! PROOFS for 43_noise.md, the arithmetic: a draw (R161, R162), the bound on the walk (R163) and the rotation table
(R171). -/

namespace Sys2Proof.Machine

/-! ### The generator (43_noise.md R161, R162) -/

theorem prngNext_of_reference {c : Config} (h : c.prng = .reference) (st : Word) :
    (prngNext c st).toNat = (st.toNat * 1664525 + 1013904223) % 2 ^ 32 := by
  have hnext : prngNext c st = st * 1664525#32 + 1013904223#32 := by simp only [prngNext, h]
  rw [hnext, BitVec.toNat_add, BitVec.toNat_mul, BitVec.toNat_ofNat, BitVec.toNat_ofNat]
  omega

theorem prngOut_of_reference {c : Config} (h : c.prng = .reference) (st : Word) : prngOut c st = st.toNat / 2 ^ 8 := by
  simp [prngOut, h]

/-- Settles O48: a draw is the output of the next state reduced, and the reference generator works on words. -/
theorem drawStepsTheGeneratorOnce : Obligations.DrawStepsTheGeneratorOnce := by
  unfold Obligations.DrawStepsTheGeneratorOnce
  exact ⟨fun c n st hn _ => ⟨draw_snd c n st, draw_fst c n st, draw_lt c hn st⟩,
    fun c st href => ⟨prngNext_of_reference href st, prngOut_of_reference href st⟩⟩

/-! ### The halving walk (43_noise.md R163) -/

/-- Half of a sum of two values within the amplitude is within the amplitude. -/
theorem natAbs_tdiv_two_le {acc r : Int} {amp : Nat} (hacc : acc.natAbs ≤ amp) (hr : r.natAbs ≤ amp) :
    (tdiv (acc + r) 2).natAbs ≤ amp := by
  unfold tdiv fdiv
  split
  · omega
  · omega

theorem natAbs_draw_sub_le {amp d : Nat} (hd : d < 2 * amp + 1) : ((d : Int) - amp).natAbs ≤ amp := by omega

theorem accAfter_natAbs_le (c : Config) (amp : Nat) (st : Word) (n : Nat) : (accAfter c amp st n).natAbs ≤ amp := by
  induction n with
  | zero => exact Nat.zero_le _
  | succ n ih => exact natAbs_tdiv_two_le ih (natAbs_draw_sub_le (Nat.mod_lt _ (by omega)))

/-- Settles O49: a step is its formula, and it keeps the bound on the accumulator. -/
theorem walkStaysWithinTheAmplitude : Obligations.WalkStaysWithinTheAmplitude := by
  unfold Obligations.WalkStaysWithinTheAmplitude
  intro c amp _
  refine ⟨fun acc st => rfl, fun st n => ?_⟩
  have hbound := accAfter_natAbs_le c amp st n
  exact ⟨hbound, hbound.trans⟩

/-! ### The rotation table (43_noise.md R170, R171) -/

theorem sincosAt_of_reference {c : Config} (h : c.sincos = .reference) (acc : Int) :
    sincosAt c acc = (refCos (fmod acc 200), refSin (fmod acc 200)) := by
  have hk : fmod acc 200 % 200 = fmod acc 200 := Nat.mod_eq_of_lt (fmod_lt acc (by decide))
  simp [sincosAt, sincos, h, hk]

/-- How far an entry is from the nearest half turn: the entry of the quarter table it takes, up to the sign. -/
def quarterIndex (k : Nat) : Nat := min (k % 100) (100 - k % 100)

theorem refCos_sq {k : Nat} (hk : k < 200) : refCos k ^ 2 = cosQ (quarterIndex k) ^ 2 := by
  unfold refCos quarterIndex
  split_ifs
  · rw [show min (k % 100) (100 - k % 100) = k by omega]
  · rw [neg_sq, show min (k % 100) (100 - k % 100) = 100 - k by omega]
  · rw [neg_sq, show min (k % 100) (100 - k % 100) = k - 100 by omega]
  · rw [show min (k % 100) (100 - k % 100) = 200 - k by omega]

/-- The sine reads the quarter table backwards. -/
theorem refSin_sq (k : Nat) : refSin k ^ 2 = cosQ (50 - quarterIndex k) ^ 2 := by
  have hquarter : quarterIndex ((k + 150) % 200) = 50 - quarterIndex k := by
    unfold quarterIndex
    omega
  rw [refSin, refCos_sq (Nat.mod_lt _ (by decide)), hquarter]

/-- The rounding of the quarter table moves the sum of the squares by at most 18206. -/
theorem cosQ_norm : ∀ j ≤ 50, (cosQ j ^ 2 + cosQ (50 - j) ^ 2 - 2 ^ 28).natAbs ≤ 18206 := by
  decide

theorem refCos_refSin_norm {k : Nat} (hk : k < 200) :
    (refCos k ^ 2 + refSin k ^ 2 - 2 ^ 28).natAbs ≤ 18206 := by
  rw [refCos_sq hk, refSin_sq]
  exact cosQ_norm _ (by unfold quarterIndex; omega)

/-- Settles O32: an accumulator reads the entry of its floor remainder, and the norm is checked on the quarter table. -/
theorem rotationTableChecks : Obligations.RotationTableChecks := by
  unfold Obligations.RotationTableChecks
  intro c href
  simp only [sincosAt_of_reference href]
  exact ⟨rfl, rfl, rfl, rfl, rfl, rfl, rfl, rfl, fun acc => refCos_refSin_norm (fmod_lt acc (by decide))⟩

end Sys2Proof.Machine
end

section
/-! PROOFS for 43_noise.md, the four commands: the scanlines done so far with the draws made for them, what one
scanline of each command does, and from it the check, the effect, the flag, the draws and the frame of `LNOISE` (R164),
`CNOISE` (R165), `PNOISE` (R170) and `DROPOUT` (R175). -/

namespace Sys2Proof.Machine

/-! ### Rows that draw in order -/

section Lines

variable {s : State} {ps : List Plane} {rows done rest : List Nat} {p : Plane} {r : Nat}

/-- Of a list without duplicates no element stands before itself. -/
theorem not_mem_before_of_nodup {α : Type} {xs done rest : List α} {x : α} (hxs : xs.Nodup)
    (h : xs = done ++ x :: rest) : x ∉ done := fun hmem => List.disjoint_of_nodup_append (h ▸ hxs) hmem List.mem_cons_self

/-- The field's rows are every second one. -/
theorem fieldRows_eq_map {f : Nat} (hf : f < 2) (h : Nat) :
    fieldRows f h = (List.range ((h + 1 - f) / 2)).map (fun k => 2 * k + f) := by
  induction h with
  | zero =>
    have hnone : (0 + 1 - f) / 2 = 0 := by omega
    rw [hnone]
    rfl
  | succ h ih =>
    rw [fieldRows_succ, ih]
    split
    · have hcount : (h + 1 + 1 - f) / 2 = (h + 1 - f) / 2 + 1 := by omega
      rw [hcount, List.range_succ, List.map_append, List.map_singleton]
      congr 2
      omega
    · congr 2
      omega

/-- The number of field rows before a row. -/
theorem State.length_before_row (h : s.rows = done ++ r :: rest) : done.length = r / 2 := by
  have hf : s.field.toNat < 2 := s.field.isLt
  have hr : s.rows[done.length]? = some r := by simp [h]
  rw [State.rows, fieldRows_eq_map hf] at hr
  obtain ⟨k, hk, rfl⟩ := by simpa using hr
  obtain ⟨-, rfl⟩ := List.getElem?_eq_some_iff.mp hk
  rw [List.getElem_range]
  omega

/-- The rows of the planes, all planes of a scanline before the next scanline. -/
def linesOf (ps : List Plane) (rows : List Nat) : List (Plane × Nat) := rows.flatMap (fun r => ps.map (·, r))

theorem mem_linesOf : (p, r) ∈ linesOf ps rows ↔ p ∈ ps ∧ r ∈ rows := by
  simp [linesOf, and_comm]

theorem linesOf_append_singleton (ps : List Plane) (rows : List Nat) (r : Nat) :
    linesOf ps (rows ++ [r]) = linesOf ps rows ++ ps.map (·, r) := by
  simp [linesOf]

@[simp] theorem length_linesOf (ps : List Plane) (rows : List Nat) :
    (linesOf ps rows).length = ps.length * rows.length := by
  simp [linesOf, List.length_flatMap, Nat.mul_comm]

end Lines

/-! ### The scanlines done so far, with their draws -/

section Done

variable {v : Plane → Nat → Nat → Int} {s u : State} {lines : List (Plane × Nat)} {ps : List Plane} {p : Plane}
  {r n : Nat}

theorem FilterDone.setPrng (h : FilterDone v s lines u) (st : Word) : FilterDone v s lines (u.setPrng st) where
  plW := h.plW
  planes p := (h.planes p).congr rfl rfl
  sat := h.sat

/-- The scanlines that are done hold the saturated values, and `n` draws have been made. -/
structure NoiseDone (v : Plane → Nat → Nat → Int) (s : State) (lines : List (Plane × Nat)) (n : Nat) (u : State) :
    Prop where
  rows : FilterDone v s lines u
  cfg : u.cfg = s.cfg
  prng : u.prngState = prngAfter s.cfg s.prngState n

theorem NoiseDone.start (v : Plane → Nat → Nat → Int) (s : State) : NoiseDone v s [] 0 s :=
  ⟨⟨rfl, fun p => .nil s p _ rfl, by simp⟩, rfl, rfl⟩

theorem NoiseDone.writeRowSat (h : NoiseDone v s lines n u) (p : Plane) (r : Nat) :
    NoiseDone v s (lines ++ [(p, r)]) n (u.writeRowSat p r ((List.range s.plW.toNat).map (v p r))) where
  rows := h.rows.writeRowSat p r
  cfg := (u.setPlane_cfg p _).trans h.cfg
  prng := (u.setPlane_prngState p _).trans h.prng

theorem NoiseDone.setPrng (h : NoiseDone v s lines n u) (m : Nat) :
    NoiseDone v s lines m (u.setPrng (prngAfter s.cfg s.prngState m)) where
  rows := h.rows.setPrng _
  cfg := h.cfg
  prng := rfl

/-- One more scanline of both chroma planes is written. -/
theorem NoiseDone.writeChroma {done : List Nat} (h : NoiseDone v s (linesOf [.i, .q] done) n u) (r : Nat) :
    NoiseDone v s (linesOf [.i, .q] (done ++ [r])) n
      ((u.writeRowSat .i r ((List.range s.plW.toNat).map (v .i r))).writeRowSat .q r
        ((List.range s.plW.toNat).map (v .q r))) := by
  rw [linesOf_append_singleton]
  simpa using (h.writeRowSat .i r).writeRowSat .q r

/-- Once some rows of some planes are done, these hold the saturated values, and the count does not matter. -/
theorem NoiseDone.rowsBecome {rows : List Nat} (h : NoiseDone v s (linesOf ps rows) n u) (hp : p ∈ ps) :
    RowsBecome rows s u.complete p (fun r c => sat32 (v p r c)) :=
  ((h.rows.planes p).congr (u.plane_complete p) u.complete_plW).congr_values
    (fun r => by simp [mem_rowsOf, mem_linesOf, hp]) (fun _ _ _ _ => rfl)

theorem NoiseDone.sat_iff (h : NoiseDone v s (linesOf ps s.rows) n u) :
    u.sat = true ↔ s.sat = true ∨ ∃ p ∈ ps, FieldClamps s (v p) := by
  rw [h.rows.sat]
  simp only [mem_linesOf, FieldClamps, and_assoc, exists_and_left]

end Done

/-! ### A noise command that passed its check -/

section Commands

variable {i : Instr} {s t : State}

theorem exec_of_noop (hclear : s.errCode = 0#8) (hcheck : checkOf i s = none) (hnoop : isNoop i s = true) :
    exec i s = .next s.complete := by
  rw [exec_eq_runCommand, hcheck, hnoop, runCommand_noop hclear]

/-- An effect that writes no pixels changes the planes, the flag and the generator alone. -/
theorem Evolves.eq_withPlanes_sat_prng (h : Evolves i s t) (hi : i ≠ .fromyiq) :
    t = { s.withPlanes t with sat := t.sat, prngState := t.prngState } := by
  calc t = s.withEffects t := h.eq_withEffects
    _ = { s.withPlanes t with sat := t.sat, prngState := t.prngState } := by
      rw [State.withEffects, h.dst_eq hi]
      rfl

/-- An effect that may write the two chroma planes alone leaves the luma. -/
theorem Evolves.eq_withChroma_sat_prng (h : Evolves i s t) (hi : i ≠ .fromyiq) (hluma : writesPlane i .y = false) :
    t = { s with planeI := t.planeI, planeQ := t.planeQ, sat := t.sat, prngState := t.prngState } := by
  have hy : t.planeY = s.planeY := h.plane_eq (p := .y) hluma
  calc t = { s.withPlanes t with sat := t.sat, prngState := t.prngState } := h.eq_withPlanes_sat_prng hi
    _ = { s with planeI := t.planeI, planeQ := t.planeQ, sat := t.sat, prngState := t.prngState } := by
      rw [State.withPlanes, hy]

end Commands

/-- Settles O54: each of the four commands has its own amount, and with the amount 0 it is a no-op. -/
theorem neutralNoiseChangesNothing : Obligations.NeutralNoiseChangesNothing := by
  unfold Obligations.NeutralNoiseChangesNothing
  intro s hclear hvalid hluma hchroma hphase hloss i hi
  have hcheck := planeCheck_none.mpr hvalid
  simp only [List.mem_cons, List.not_mem_nil, or_false] at hi
  rcases hi with rfl | rfl | rfl | rfl
  · exact exec_of_noop (i := .lnoise) hclear hcheck (beq_iff_eq.mpr hluma)
  · exact exec_of_noop (i := .cnoise) hclear hcheck (beq_iff_eq.mpr hchroma)
  · exact exec_of_noop (i := .pnoise) hclear hcheck (beq_iff_eq.mpr hphase)
  · exact exec_of_noop (i := .dropout) hclear hcheck (beq_iff_eq.mpr hloss)

/-! ### A walk along each row (43_noise.md R164, R165) -/

section Walks

variable {s u : State} {ps : List Plane} {p : Plane} {amp r : Nat} {done rest : List Nat}

theorem zipWith_map_range (f : Int → Int → Int) (g h : Nat → Int) (n : Nat) :
    List.zipWith f ((List.range n).map g) ((List.range n).map h) = (List.range n).map (fun c => f (g c) (h c)) := by
  rw [List.zipWith_map, List.zipWith_self]

theorem noiseRow_of_readable (h : s.rowReadable p r = true) : noiseRow p amp r s =
    .ok ((s.writeRowSat p r (List.zipWith (fun x acc => x + acc) (s.rowOf p r)
      ((List.range s.plW.toNat).map (fun c => accAfter s.cfg amp s.prngState (c + 1))))).setPrng
        (prngAfter s.cfg s.prngState s.plW.toNat)) := by
  simp only [noiseRow, State.readRow_of_readable h, walk_spec]

/-- The noisy value at row `r`, column `c` of a plane, where the rows of the planes `ps` of one scanline draw before
those of the next, each from a fresh accumulator. -/
def State.noisy (s : State) (amp : Nat) (ps : List Plane) (p : Plane) (r c : Nat) : Int :=
  s.val p r c + accAfter s.cfg amp
    (prngAfter s.cfg s.prngState ((ps.length * (r / 2) + ps.idxOf p) * s.plW.toNat)) (c + 1)

/-- The scanlines that are done have taken their walks, each as many draws as the row is wide. -/
def WalksDone (amp : Nat) (ps : List Plane) (s : State) (lines : List (Plane × Nat)) (u : State) : Prop :=
  NoiseDone (s.noisy amp ps) s lines (lines.length * s.plW.toNat) u

/-- One more row draws after the rows that are done. -/
theorem noiseRow_done {lines : List (Plane × Nat)} (hpos : lines.length = ps.length * (r / 2) + ps.idxOf p)
    (hread : s.rowReadable p r = true) (hnew : (p, r) ∉ lines) (h : WalksDone amp ps s lines u) :
    ∃ u', noiseRow p amp r u = .ok u' ∧ WalksDone amp ps s (lines ++ [(p, r)]) u' := by
  obtain ⟨hreadable, hold⟩ := h.rows.row_eq hnew
  have hdraws : lines.length * s.plW.toNat + s.plW.toNat = (lines ++ [(p, r)]).length * s.plW.toNat := by
    rw [List.length_append, List.length_singleton, Nat.succ_mul]
  have hnoisy : (fun c => s.val p r c + accAfter s.cfg amp
      (prngAfter s.cfg s.prngState (lines.length * s.plW.toNat)) (c + 1)) = s.noisy amp ps p r := by
    rw [hpos]
    rfl
  have hrow := noiseRow_of_readable (amp := amp) (hreadable.trans hread)
  rw [hold, h.cfg, h.prng, h.rows.plW, State.rowOf, zipWith_map_range, hnoisy, prngAfter_add, hdraws] at hrow
  exact ⟨_, hrow, (h.writeRowSat p r).setPrng _⟩

/-- One more scanline: its rows draw in the order of the planes. -/
theorem noiseScanline_done (hps : ps.Nodup) (hrows : s.rows = done ++ r :: rest)
    (hread : ∀ p ∈ ps, s.fieldReadable p = true) (h : WalksDone amp ps s (linesOf ps done) u) :
    ∃ u', forEach (fun p => noiseRow p amp r) ps u = .ok u' ∧ WalksDone amp ps s (linesOf ps (done ++ [r])) u' := by
  have hr : r ∈ s.rows := by simp [hrows]
  have hnew : r ∉ done := not_mem_before_of_nodup s.nodup_rows hrows
  rw [linesOf_append_singleton]
  refine forEach_completes (P := fun planes => WalksDone amp ps s (linesOf ps done ++ planes.map (·, r)))
    (fun planes p others hplanes v hv => ?_) (by simpa using h)
  have hp : p ∈ ps := by simp [hplanes]
  have hnewp : p ∉ planes := not_mem_before_of_nodup hps hplanes
  have hpos : (linesOf ps done ++ planes.map (·, r)).length = ps.length * (r / 2) + ps.idxOf p := by
    have hidx : ps.idxOf p = planes.length := by
      rw [hplanes, List.idxOf_append_of_notMem hnewp, List.idxOf_cons_self, Nat.add_zero]
    rw [List.length_append, length_linesOf, List.length_map, State.length_before_row hrows, hidx]
  rw [List.map_append, List.map_singleton, ← List.append_assoc]
  exact noiseRow_done hpos (State.rowReadable_of_fieldReadable (hread p hp) hr)
    (by simp [mem_linesOf, hnew, hnewp]) hv

theorem walks_complete (hps : ps.Nodup) (hread : ∀ p ∈ ps, s.fieldReadable p = true) :
    ∃ u, forEach (fun r => forEach (fun p => noiseRow p amp r) ps) s.rows s = .ok u ∧
      WalksDone amp ps s (linesOf ps s.rows) u :=
  forEach_completes (P := fun done => WalksDone amp ps s (linesOf ps done))
    (fun _ _ _ hrows _ hu => noiseScanline_done hps hrows hread hu)
    (by simpa [WalksDone, linesOf] using NoiseDone.start (s.noisy amp ps) s)

/-- After its walks along the field rows the generator has advanced by one step for each sample. -/
theorem WalksDone.prng (h : WalksDone amp ps s (linesOf ps s.rows) u) :
    u.prngState = prngAfter s.cfg s.prngState (ps.length * s.rows.length * s.plW.toNat) := by
  rw [NoiseDone.prng h, length_linesOf]

end Walks

/-! ### `LNOISE` (43_noise.md R164) -/

theorem forEach_singleton {α σ : Type} (f : α → σ → Except Fault σ) (x : α) : forEach f [x] = f x := by
  funext st
  rw [forEach]
  cases f x st <;> rfl

theorem effectOf_lnoise (s : State) :
    effectOf .lnoise s = forEach (fun r => forEach (fun p => noiseRow p s.lnoiseAmp.toNat r) [.y]) s.rows s := by
  simp only [forEach_singleton]
  rfl

/-- With one plane the scanlines are the rows of that plane. -/
theorem State.noisy_singleton (s : State) (amp : Nat) (p : Plane) : s.noisy amp [p] p = fun r c =>
    s.val p r c + accAfter s.cfg amp (prngAfter s.cfg s.prngState (r / 2 * s.plW.toNat)) (c + 1) := by
  funext r c
  simp [State.noisy]

theorem Evolves.lnoise_eq {s t : State} (h : Evolves .lnoise s t) :
    t = { s with planeY := t.planeY, sat := t.sat, prngState := t.prngState } := by
  have hi : t.planeI = s.planeI := h.plane_eq (p := .i) rfl
  have hq : t.planeQ = s.planeQ := h.plane_eq (p := .q) rfl
  calc t = { s.withPlanes t with sat := t.sat, prngState := t.prngState } := h.eq_withPlanes_sat_prng (by decide)
    _ = { s with planeY := t.planeY, sat := t.sat, prngState := t.prngState } := by rw [State.withPlanes, hi, hq]

/-- Settles O50: each field row of `Y` in turn takes a walk of its own, as long as the row. -/
theorem lnoiseAddsAWalkToEachRow : Obligations.LnoiseAddsAWalkToEachRow := by
  unfold Obligations.LnoiseAddsAWalkToEachRow
  refine fun s hclear => ⟨fun hinvalid => exec_of_invalidShape rfl hclear hinvalid rfl,
    fun hvalid hzero => exec_of_noop (i := .lnoise) hclear (planeCheck_none.mpr hvalid) (beq_iff_eq.mpr hzero),
    fun hvalid hne hread => ?_⟩
  obtain ⟨u, hu, hdone, hexec⟩ := exec_of_effect (i := .lnoise)
    (P := WalksDone s.lnoiseAmp.toNat [.y] s (linesOf [.y] s.rows)) hclear (planeCheck_none.mpr hvalid)
    (beq_eq_false_iff_ne.mpr hne)
    (by rw [effectOf_lnoise]; exact walks_complete (by simp) (by simpa using hread))
  have hframe := Evolves.lnoise_eq hu
  have hsat := hdone.sat_iff
  have hrows := hdone.rowsBecome (p := .y) (by simp)
  rw [hdone.prng, List.length_singleton, Nat.one_mul] at hframe
  simp only [List.mem_singleton, exists_eq_left, State.noisy_singleton] at hsat
  simp only [State.noisy_singleton] at hrows
  exact ⟨u.complete, hexec, congrArg State.complete hframe, hsat, hrows⟩

/-! ### `CNOISE` (43_noise.md R165) -/

theorem cnoiseRow_eq_forEach (amp r : Nat) : cnoiseRow amp r = forEach (fun p => noiseRow p amp r) [.i, .q] := by
  funext s
  rw [cnoiseRow, forEach, forEach_singleton]
  cases noiseRow .i amp r s <;> rfl

theorem effectOf_cnoise (s : State) :
    effectOf .cnoise s = forEach (fun r => forEach (fun p => noiseRow p s.cnoiseAmp.toNat r) [.i, .q]) s.rows s := by
  simp only [← cnoiseRow_eq_forEach]
  rfl

theorem exists_mem_chroma {P : Plane → Prop} : (∃ p ∈ [Plane.i, .q], P p) ↔ P .i ∨ P .q := by simp

theorem forall_mem_chroma {P : Plane → Prop} : (∀ p ∈ [Plane.i, .q], P p) ↔ P .i ∧ P .q := by simp

/-- Settles O51: each field row of `I` and after it that of `Q` takes a walk of its own, as long as the row. -/
theorem cnoiseAddsAWalkToEachChromaRow : Obligations.CnoiseAddsAWalkToEachChromaRow := by
  unfold Obligations.CnoiseAddsAWalkToEachChromaRow
  refine fun s hclear => ⟨fun hinvalid => exec_of_invalidShape rfl hclear hinvalid rfl,
    fun hvalid hzero => exec_of_noop (i := .cnoise) hclear (planeCheck_none.mpr hvalid) (beq_iff_eq.mpr hzero),
    fun hvalid hne hi hq => ?_⟩
  obtain ⟨u, hu, hdone, hexec⟩ := exec_of_effect (i := .cnoise)
    (P := WalksDone s.cnoiseAmp.toNat [.i, .q] s (linesOf [.i, .q] s.rows)) hclear (planeCheck_none.mpr hvalid)
    (beq_eq_false_iff_ne.mpr hne)
    (by rw [effectOf_cnoise]; exact walks_complete (by decide) (forall_mem_chroma.mpr ⟨hi, hq⟩))
  have hframe := Evolves.eq_withChroma_sat_prng hu (by decide) rfl
  rw [hdone.prng] at hframe
  exact ⟨u.complete, hexec, congrArg State.complete hframe, hdone.sat_iff.trans (or_congr_right exists_mem_chroma),
    hdone.rowsBecome (by simp), hdone.rowsBecome (by simp)⟩

/-! ### `PNOISE` (43_noise.md R170) -/

section Rotation

variable {s u : State} {cs : Int × Int} {r : Nat} {done rest : List Nat}

theorem rotateRow_of_readable (hi : s.rowReadable .i r = true) (hq : s.rowReadable .q r = true) :
    rotateRow cs r s = .ok ((s.writeRowSat .i r (List.zipWith (rotateI cs) (s.rowOf .i r) (s.rowOf .q r))).writeRowSat
      .q r (List.zipWith (rotateQ cs) (s.rowOf .i r) (s.rowOf .q r))) := by
  simp only [rotateRow, State.readRow_of_readable hi, State.readRow_of_readable hq]

/-- The table entry by which `PNOISE` rotates row `r`: the accumulator has taken one step for each field row so far. -/
def State.angle (s : State) (r : Nat) : Int × Int :=
  sincosAt s.cfg (accAfter s.cfg s.pnoiseAmp.toNat s.prngState (r / 2 + 1))

/-- What `PNOISE` makes of row `r`, column `c` of a plane, before saturation. -/
def State.turned (s : State) : Plane → Nat → Nat → Int
  | .y, r, c => s.val .y r c
  | .i, r, c => rotateI (s.angle r) (s.val .i r c) (s.val .q r c)
  | .q, r, c => rotateQ (s.angle r) (s.val .i r c) (s.val .q r c)

/-- The scanlines that are done are rotated, with one draw for each, and the accumulator has taken as many steps. -/
def RotationsDone (s : State) (done : List Nat) (st : State × Int) : Prop :=
  NoiseDone s.turned s (linesOf [.i, .q] done) done.length st.1 ∧
    st.2 = accAfter s.cfg s.pnoiseAmp.toNat s.prngState done.length

/-- One more scanline is rotated, from the pairs as they were before the command. -/
theorem rotateRow_done {n : Nat} (hnew : r ∉ done) (hi : s.rowReadable .i r = true) (hq : s.rowReadable .q r = true)
    (h : NoiseDone s.turned s (linesOf [.i, .q] done) n u) :
    ∃ u', rotateRow (s.angle r) r u = .ok u' ∧ NoiseDone s.turned s (linesOf [.i, .q] (done ++ [r])) n u' := by
  obtain ⟨hreadI, holdI⟩ := h.rows.row_eq (p := .i) (r := r) (by simp [mem_linesOf, hnew])
  obtain ⟨hreadQ, holdQ⟩ := h.rows.row_eq (p := .q) (r := r) (by simp [mem_linesOf, hnew])
  have hrow := rotateRow_of_readable (cs := s.angle r) (hreadI.trans hi) (hreadQ.trans hq)
  rw [holdI, holdQ, State.rowOf, State.rowOf, zipWith_map_range, zipWith_map_range] at hrow
  exact ⟨_, hrow, h.writeChroma r⟩

/-- One more scanline: a step of the walk, and the rotation by its accumulator. -/
theorem pnoiseRow_done {st : State × Int} (hrows : s.rows = done ++ r :: rest) (hi : s.fieldReadable .i = true)
    (hq : s.fieldReadable .q = true) (h : RotationsDone s done st) :
    ∃ st', pnoiseRow s.pnoiseAmp.toNat r st = .ok st' ∧ RotationsDone s (done ++ [r]) st' := by
  obtain ⟨hdone, hacc⟩ := h
  have hr : r ∈ s.rows := by simp [hrows]
  obtain ⟨u', hrow, hdone'⟩ := rotateRow_done (not_mem_before_of_nodup s.nodup_rows hrows)
    (State.rowReadable_of_fieldReadable hi hr) (State.rowReadable_of_fieldReadable hq hr)
    (hdone.setPrng (done ++ [r]).length)
  have hstep : walkStep st.1.cfg s.pnoiseAmp.toNat st.2 st.1.prngState =
      (accAfter s.cfg s.pnoiseAmp.toNat s.prngState (done ++ [r]).length,
        prngAfter s.cfg s.prngState (done ++ [r]).length) := by
    rw [hacc, hdone.cfg, hdone.prng, walkStep_accAfter, List.length_append, List.length_singleton]
  have hangle : sincosAt st.1.cfg (accAfter s.cfg s.pnoiseAmp.toNat s.prngState (done ++ [r]).length) =
      s.angle r := by
    rw [State.angle, hdone.cfg, ← State.length_before_row hrows, List.length_append, List.length_singleton]
  refine ⟨(u', _), ?_, hdone', rfl⟩
  simp only [pnoiseRow, hstep, hangle, hrow]

theorem pnoiseEffect_completes (hi : s.fieldReadable .i = true) (hq : s.fieldReadable .q = true) :
    ∃ u, pnoiseEffect s = .ok u ∧ NoiseDone s.turned s (linesOf [.i, .q] s.rows) s.rows.length u := by
  obtain ⟨st, hst, hdone, -⟩ := forEach_completes (P := RotationsDone s) (st := (s, 0))
    (fun _ _ _ hrows _ hu => pnoiseRow_done hrows hi hq hu) ⟨.start _ s, rfl⟩
  exact ⟨st.1, by rw [pnoiseEffect, hst], hdone⟩

end Rotation

/-- Settles O52: the accumulator takes one step for each field row, and its table entry rotates the old pair. -/
theorem pnoiseRotatesTheChroma : Obligations.PnoiseRotatesTheChroma := by
  unfold Obligations.PnoiseRotatesTheChroma
  refine fun s hclear => ⟨fun hinvalid => exec_of_invalidShape rfl hclear hinvalid rfl,
    fun hvalid hzero => exec_of_noop (i := .pnoise) hclear (planeCheck_none.mpr hvalid) (beq_iff_eq.mpr hzero),
    fun hvalid hne hi hq => ?_⟩
  obtain ⟨u, hu, hdone, hexec⟩ := exec_of_effect (i := .pnoise) hclear (planeCheck_none.mpr hvalid)
    (beq_eq_false_iff_ne.mpr hne) (pnoiseEffect_completes hi hq)
  have hframe := Evolves.eq_withChroma_sat_prng hu (by decide) rfl
  rw [hdone.prng] at hframe
  exact ⟨u.complete, hexec, congrArg State.complete hframe, hdone.sat_iff.trans (or_congr_right exists_mem_chroma),
    hdone.rowsBecome (by simp), hdone.rowsBecome (by simp)⟩

/-! ### `DROPOUT` (43_noise.md R175) -/

section Dropout

variable {s u : State} {r : Nat} {done rest : List Nat}

/-- Zeros are samples, so saturation changes nothing. -/
theorem State.writeRow_zeros (s : State) (p : Plane) (r n : Nat) :
    s.writeRow p r (List.replicate n 0) = s.writeRowSat p r ((List.range n).map (fun _ => 0)) := by
  have hzero : sat32 0 = 0 := rfl
  have hfits : clamps 0 = false := rfl
  simp [State.writeRowSat, hzero, hfits, State.noteSat_false]

/-- Whether the draw for a field row is below the loss. -/
def State.dropped (s : State) (r : Nat) : Bool :=
  decide (nthDraw s.cfg s.prngState 100000 (r / 2 + 1) < s.chromaLoss.toNat)

/-- The dropped scanlines among those that are done are zero, and one draw has been made for each that is done. -/
def DropoutsDone (s : State) (done : List Nat) (u : State) : Prop :=
  NoiseDone (fun _ _ _ => 0) s (linesOf [.i, .q] (done.filter s.dropped)) done.length u

theorem dropoutRow_done (hrows : s.rows = done ++ r :: rest) (h : DropoutsDone s done u) :
    ∃ u', dropoutRow s.chromaLoss.toNat r u = .ok u' ∧ DropoutsDone s (done ++ [r]) u' := by
  have hdraw : (draw u.cfg 100000 u.prngState).1 = nthDraw s.cfg s.prngState 100000 (r / 2 + 1) := by
    rw [h.cfg, h.prng, draw_fst, nthDraw, prngAfter_succ, State.length_before_row hrows]
  have hnext : prngNext u.cfg u.prngState = prngAfter s.cfg s.prngState (done ++ [r]).length := by
    rw [h.cfg, h.prng, ← prngAfter_succ, List.length_append, List.length_singleton]
  have hdrawn := h.setPrng (done ++ [r]).length
  refine ⟨_, rfl, ?_⟩
  rw [draw_snd, hdraw, hnext, h.rows.plW, DropoutsDone, List.filter_append]
  split
  · rename_i hdrop
    have hkeep : [r].filter s.dropped = [r] := by simp [State.dropped, hdrop]
    rw [hkeep, State.writeRow_zeros, State.writeRow_zeros]
    exact hdrawn.writeChroma r
  · rename_i hstay
    have hkeep : [r].filter s.dropped = [] := by simpa [State.dropped] using hstay
    rwa [hkeep, List.append_nil]

theorem dropouts_complete (s : State) :
    ∃ u, forEach (dropoutRow s.chromaLoss.toNat) s.rows s = .ok u ∧ DropoutsDone s s.rows u :=
  forEach_completes (fun _ _ _ hrows _ hu => dropoutRow_done hrows hu) (.start _ s)

theorem Evolves.dropout_eq {t : State} (h : Evolves .dropout s t) :
    t = { s with planeI := t.planeI, planeQ := t.planeQ, prngState := t.prngState } := by
  have hframe := Evolves.eq_withChroma_sat_prng h (by decide) rfl
  rwa [h.sat_eq rfl] at hframe

end Dropout

/-- Settles O53: one draw for each field row decides whether its chroma is zeroed, and no row is read. -/
theorem dropoutZeroesTheDrawnRows : Obligations.DropoutZeroesTheDrawnRows := by
  unfold Obligations.DropoutZeroesTheDrawnRows
  refine fun s hclear => ⟨fun hinvalid => exec_of_invalidShape rfl hclear hinvalid rfl,
    fun hvalid hzero => exec_of_noop (i := .dropout) hclear (planeCheck_none.mpr hvalid) (beq_iff_eq.mpr hzero),
    fun hvalid hne => ?_⟩
  obtain ⟨u, hu, hdone, hexec⟩ := exec_of_effect (i := .dropout) hclear (planeCheck_none.mpr hvalid)
    (beq_eq_false_iff_ne.mpr hne) (dropouts_complete s)
  have hframe := Evolves.dropout_eq hu
  rw [hdone.prng] at hframe
  exact ⟨u.complete, hexec, congrArg State.complete hframe,
    hdone.rowsBecome (by simp), hdone.rowsBecome (by simp)⟩

end Sys2Proof.Machine
end

section
/-! PROOFS for 44_system.md. A write to `CMD` is the command (R190); every other register transaction is `readReg` or
`writeReg` of the register at the offset, or nothing at a reserved one (R191, R192); a memory transaction is one
`memGet` or `memSet` (R193); `NOP` counts and does nothing else (R194). -/

namespace Sys2Proof.Machine

/-! ### `NOP` (44_system.md R194) -/

/-- Settles O55: `NOP` runs through the common order with no check and an empty effect, and the word with a mask bit
selects no row. -/
theorem nopOnlyCounts : Obligations.NopOnlyCounts := by
  unfold Obligations.NopOnlyCounts
  refine ⟨fun s hclear => ?_, fun s hlatched => ?_, .strayMask, rfl⟩
  · rw [exec_eq_runCommand]
    exact runCommand_effect hclear rfl
  · rw [exec_eq_runCommand]
    exact runCommand_latched hlatched

/-! ### The register map (10_state.md R21, R47) -/

theorem regAt_regOffset (r : Reg) : regAt (regOffset r) = some r := by
  cases r with
  | _ => rfl

theorem offsetOk_regOffset (r : Reg) : offsetOk (regOffset r) = true := by
  cases r with
  | _ => rfl

theorem regOffset_not_reserved (r : Reg) : regOffset r ≠ 0x18 ∧ regOffset r ≠ 0x1C ∧ regOffset r < 0x6C := by
  cases r with
  | _ => decide

theorem regAt_of_reserved {off : Nat} (h : off = 0x18 ∨ off = 0x1C ∨ 0x6C ≤ off) : regAt off = none := by
  refine Option.eq_none_iff_forall_ne_some.mpr (fun r hr => ?_)
  have hoff := regOffset_of_regAt hr
  have hmap := regOffset_not_reserved r
  omega

/-! ### A write to `CMD` (44_system.md R190) -/

theorem perform_write_legal {w : Word} {i : Instr} (h : decode w = .ok i) (s : State) :
    perform (.writeReg 0x04 w) s = exec i s := by
  have hissue : perform (.writeReg 0x04 w) s = issue w s := rfl
  rw [hissue, issue, h]

theorem commandWord_toNat (w : Word) : commandWord 32 w.toNat = w := by
  rw [commandWord, Nat.mod_eq_of_lt w.isLt, BitVec.ofNat_toNat, BitVec.setWidth_eq]

theorem State.withFetchWord_script (s : State) (w : Word) :
    (s.withFetchWord 32 w.toNat).script = .writeReg 0x04 w :: s.script := by
  rw [State.withFetchWord, commandWord_toNat]

/-- Settles O5: the step performs the write, and a write of a word that decodes is the command. Taking the loaded
transaction back from `withFetchWord` leaves the state it was made from. -/
theorem stepRunsTheDecodedCommand : Obligations.StepRunsTheDecodedCommand := by
  unfold Obligations.StepRunsTheDecodedCommand
  refine ⟨fun s w i rest hscript hdec => ?_, fun s w i hdec => ?_⟩
  · rw [step_of_script_cons hscript, perform_write_legal hdec]
  · rw [step_of_script_cons (s.withFetchWord_script w), perform_write_legal hdec]
    rfl

/-! ### Reading a register (44_system.md R192) -/

theorem hostReadReg_regOffset (r : Reg) (s : State) : hostReadReg (regOffset r) s = s.readReg r := by
  rw [hostReadReg, regAt_regOffset]

theorem hostReadReg_reserved {off : Nat} (h : off = 0x18 ∨ off = 0x1C ∨ 0x6C ≤ off) (s : State) :
    hostReadReg off s = 0#32 := by
  rw [hostReadReg, regAt_of_reserved h]

theorem perform_readReg_of_offsetOk {off : Nat} (h : offsetOk off = true) (s : State) :
    perform (.readReg off) s = .next (s.respond (.word (hostReadReg off s))) := if_pos h

theorem State.errFlag_eq_true_iff (s : State) : s.errFlag = true ↔ s.errCode ≠ 0#8 := by simp [State.errFlag]

/-- `SAT` is bit 2, `ERRF` is bit 1 and `BUSY`, bit 0, reads 0 (10_state.md R24). -/
theorem State.toNat_statusWord (s : State) :
    s.statusWord.toNat = (if s.sat then 4 else 0) + (if s.errFlag then 2 else 0) := by
  unfold State.statusWord
  cases s.sat with
  | _ => cases s.errFlag with
    | _ => rfl

/-- Settles O23: a legal offset is that of a register, which answers `readReg`, or a reserved one, which answers 0. -/
theorem hostRegisterRead : Obligations.HostRegisterRead := by
  unfold Obligations.HostRegisterRead
  intro s off halign hmax
  have hread : ∀ r, off = regOffset r → hostReadReg off s = s.readReg r := fun r hoff => by
    rw [hoff, hostReadReg_regOffset]
  have hstored : ∀ r {n} (x : BitVec n), n ≤ 32 → s.readReg r = x.setWidth 32 → off = regOffset r →
      (hostReadReg off s).toNat = x.toNat := fun r n x hn hx hoff => by
    rw [hread r hoff, hx, BitVec.toNat_setWidth_of_le hn]
  have hstatus : off = 0x08 →
      (hostReadReg off s).toNat = (if s.sat then 4 else 0) + (if s.errCode = 0#8 then 0 else 2) := fun hoff => by
    rw [hread .status hoff, State.readReg, State.toNat_statusWord]
    simp only [State.errFlag_eq_true_iff, ne_eq, ite_not]
  exact ⟨hostReadReg off s, perform_readReg_of_offsetOk (offsetOk_iff.mpr ⟨halign, hmax⟩) s,
    hread .id, hread .cmd, hstatus, hstored .err _ (by decide) rfl, hread .errcmd, hread .cmdcnt,
    fun h => hostReadReg_reserved h s,
    hstored .srcH _ (by decide) rfl, hstored .srcW _ (by decide) rfl, hstored .dstH _ (by decide) rfl,
    hstored .dstW _ (by decide) rfl, hstored .plH _ (by decide) rfl, hstored .plW _ (by decide) rfl,
    hstored .field _ (by decide) rfl, hread .fieldNo, hstored .phaseMode _ (by decide) rfl, hread .phaseOffset,
    hstored .scAmpl _ (by decide) rfl, hstored .fltAlpha _ (by decide) rfl, hread .fltReset,
    hstored .preAmt _ (by decide) rfl, hstored .lnoiseAmp _ (by decide) rfl, hstored .cnoiseAmp _ (by decide) rfl,
    hstored .pnoiseAmp _ (by decide) rfl, hread .chromaLoss, hread .prngState⟩

/-! ### Writing a register (44_system.md R191) -/

section RegisterWrite

variable (s : State) (w : Word) {r r' : Reg}

theorem perform_writeReg_regOffset (hr : r ≠ .cmd) :
    perform (.writeReg (regOffset r) w) s = .next (s.writeReg w r) := by
  rw [perform, if_pos (offsetOk_regOffset r), hostWriteReg, regAt_regOffset]
  cases r with
  | cmd => exact absurd rfl hr
  | _ => rfl

theorem perform_writeReg_reserved {off : Nat} (hok : offsetOk off = true) (hreg : regAt off = none) :
    perform (.writeReg off w) s = .next s := by
  rw [perform, if_pos hok, hostWriteReg, hreg]

theorem getLsbD_two_iff : w.getLsbD 2 = true ↔ w.toNat / 4 % 2 = 1 := by
  simp [BitVec.getLsbD, Nat.testBit_eq_decide_div_mod_eq]

theorem State.writeReg_status :
    s.writeReg w .status = if w.toNat / 4 % 2 = 1 then { s with sat := false } else s := by
  simp only [State.writeReg, getLsbD_two_iff]

theorem regWidth_le (r : Reg) : regWidth r ≤ 32 := by
  cases r with
  | _ => decide

/-- A parameter register keeps as many low bits of the word as it has. -/
theorem State.readReg_writeReg_same (hr : isParameter r = true) :
    (s.writeReg w r).readReg r = (w.setWidth (regWidth r)).setWidth 32 := by
  have hfull : w = (w.setWidth 32).setWidth 32 := by simp
  cases r with
  | id | cmd | status | err | errcmd | cmdcnt => cases hr
  | fieldNo | phaseOffset | fltReset | chromaLoss | prngState => exact hfull
  | _ => rfl

theorem State.toNat_readReg_writeReg_same (hr : isParameter r = true) :
    ((s.writeReg w r).readReg r).toNat = w.toNat % 2 ^ regWidth r := by
  rw [s.readReg_writeReg_same w hr, BitVec.toNat_setWidth_of_le (regWidth_le r), BitVec.toNat_setWidth]

/-- A parameter register is a field of its own, which no other register reads. -/
theorem State.readReg_writeReg_other (hr : isParameter r = true) (hne : r' ≠ r) :
    (s.writeReg w r).readReg r' = s.readReg r' := by
  cases r with
  | id | cmd | status | err | errcmd | cmdcnt => cases hr
  | _ => cases r' with
    | _ => first | rfl | exact absurd rfl hne

/-- A register write reaches neither the memories nor what is the host's. -/
theorem State.writeReg_frame (r : Reg) :
    (∀ f, (s.writeReg w r).frame f = s.frame f) ∧ (∀ p, (s.writeReg w r).plane p = s.plane p) ∧
      (s.writeReg w r).script = s.script ∧ (s.writeReg w r).response = s.response := by
  cases r with
  | status =>
    rw [State.writeReg_status]
    split
    · exact ⟨fun _ => rfl, fun _ => rfl, rfl, rfl⟩
    · exact ⟨fun _ => rfl, fun _ => rfl, rfl, rfl⟩
  | _ => exact ⟨fun _ => rfl, fun _ => rfl, rfl, rfl⟩

end RegisterWrite

/-- Settles O22: a write to `CMD` is the issue of its word; at any other offset it is `writeReg`, or nothing where no
register is. -/
theorem hostRegisterWrite : Obligations.HostRegisterWrite := by
  unfold Obligations.HostRegisterWrite
  refine fun s w => ⟨fun i h => perform_write_legal h s, fun e h => perform_write_illegal h s, ?_,
    perform_writeReg_regOffset s w (r := .err) (by decide), ?_, fun off halign hmax hreserved => ?_, fun r hr => ?_⟩
  · rw [← State.writeReg_status]
    exact perform_writeReg_regOffset s w (r := .status) (by decide)
  · simp only [List.forall_mem_cons, List.not_mem_nil, false_implies, implies_true, and_true]
    exact ⟨perform_writeReg_regOffset s w (r := .id) (by decide),
      perform_writeReg_regOffset s w (r := .errcmd) (by decide),
      perform_writeReg_regOffset s w (r := .cmdcnt) (by decide)⟩
  · exact perform_writeReg_reserved s w (offsetOk_iff.mpr ⟨halign, hmax⟩) (regAt_of_reserved hreserved)
  · have hcmd : r ≠ .cmd := by
      rintro rfl
      cases hr
    obtain ⟨hframe, hplane, hscript, hresponse⟩ := s.writeReg_frame w r
    exact ⟨s.writeReg w r, perform_writeReg_regOffset s w hcmd, s.toNat_readReg_writeReg_same w hr,
      fun r' hne => s.readReg_writeReg_other w hr hne, hframe, hplane, s.writeReg_cfg w r, hscript, hresponse⟩

/-! ### The memory transactions (44_system.md R193) -/

section MemoryTransactions

variable {s : State} {k : Nat}

theorem perform_writeByte_inside (f : Frame) (v : Byte) (hk : k < frameSize s.cfg) :
    perform (.writeByte f k v) s = .next (s.setFrame f (memSet (s.frame f) k v)) := if_pos hk

theorem perform_writeSample_inside (p : Plane) (v : Sample) (hk : k < planeSize s.cfg) :
    perform (.writeSample p k v) s = .next (s.setPlane p (memSet (s.plane p) k v)) := if_pos hk

theorem perform_readByte_written {f : Frame} {v : Byte} (hk : k < frameSize s.cfg)
    (hv : memGet (s.frame f) k = some v) : perform (.readByte f k) s = .next (s.respond (.byte v)) := by
  rw [perform, if_pos hk, hv]

theorem perform_readSample_written {p : Plane} {v : Sample} (hk : k < planeSize s.cfg)
    (hv : memGet (s.plane p) k = some v) : perform (.readSample p k) s = .next (s.respond (.sample v)) := by
  rw [perform, if_pos hk, hv]

theorem perform_readByte_unwritten {f : Frame} (hk : k < frameSize s.cfg) (hnone : memGet (s.frame f) k = none) :
    perform (.readByte f k) s = .fault (.unwrittenByte f k) := by
  rw [perform, if_pos hk, hnone]

theorem perform_readSample_unwritten {p : Plane} (hk : k < planeSize s.cfg) (hnone : memGet (s.plane p) k = none) :
    perform (.readSample p k) s = .fault (.unwrittenSample p k) := by
  rw [perform, if_pos hk, hnone]

end MemoryTransactions

/-- Settles O24: a write is one `memSet` of the memory's contents, and a read answers what `memGet` finds. -/
theorem hostMemoryIsPlainStorage : Obligations.HostMemoryIsPlainStorage := by
  unfold Obligations.HostMemoryIsPlainStorage
  refine ⟨fun s f k v hk => ?_, fun s p k v hk => ?_, fun s f k => perform_readByte_unwritten,
    fun s p k => perform_readSample_unwritten⟩
  · refine ⟨_, perform_writeByte_inside f v hk, by rw [State.frame_setFrame_same], fun k' => ?_, ?_⟩
    · rw [State.frame_setFrame_same, memGet_memSet]
    · exact perform_readByte_written (by rwa [State.setFrame_cfg])
        (by rw [State.frame_setFrame_same, memGet_memSet_same])
  · refine ⟨_, perform_writeSample_inside p v hk, by rw [State.plane_setPlane_same], fun k' => ?_, ?_⟩
    · rw [State.plane_setPlane_same, memGet_memSet]
    · exact perform_readSample_written (by rwa [State.setPlane_cfg])
        (by rw [State.plane_setPlane_same, memGet_memSet_same])

end Sys2Proof.Machine
end

section
/-! PROOFS for 60_exceptions.md. The cause of each code as the checks find it (R200, R207), and the two registers that
taking a fault writes (R204) with what `STATUS.ERRF` reads then; returning from a fault (R205); and the transactions
that do the same whatever code is latched (R206). -/

namespace Sys2Proof.Machine

/-! ### The causes (60_exceptions.md R200) -/

/-- The frame shape that a converter reads or writes is not the one it needs (R202). -/
def ShapeMismatch (i : Instr) (s : State) : Prop :=
  (i = .toyiq ∧ ¬(s.srcH = s.dstH ∧ s.srcW = s.dstW)) ∨
  (i = .fromyiq ∧ ¬(s.dstH = s.plH ∧ s.dstW = s.plW))

/-- A shape that the command works on is invalid, or the phase mode of a command of the codec is unknown (R203). -/
def InvalidArgument (i : Instr) (s : State) : Prop :=
  (i = .toyiq ∧ ¬(1 ≤ s.srcH.toNat ∧ s.srcH.toNat ≤ s.cfg.hmax ∧ 1 ≤ s.srcW.toNat ∧ s.srcW.toNat ≤ s.cfg.wmax)) ∨
  (i ≠ .toyiq ∧ i ≠ .nop ∧
    ¬(1 ≤ s.plH.toNat ∧ s.plH.toNat ≤ s.cfg.hmax ∧ 1 ≤ s.plW.toNat ∧ s.plW.toNat ≤ s.cfg.wmax)) ∨
  ((i = .c2l ∨ i = .l2c) ∧ 3 < s.phaseMode.toNat)

theorem State.planeShapeValid_iff {s : State} : s.planeShapeValid = true ↔
    1 ≤ s.plH.toNat ∧ s.plH.toNat ≤ s.cfg.hmax ∧ 1 ≤ s.plW.toNat ∧ s.plW.toNat ≤ s.cfg.wmax := by
  simp only [State.planeShapeValid, validHeight, validWidth, Bool.and_eq_true, decide_eq_true_eq, and_assoc]

theorem State.srcShapeValid_iff {s : State} : s.srcShapeValid = true ↔
    1 ≤ s.srcH.toNat ∧ s.srcH.toNat ≤ s.cfg.hmax ∧ 1 ≤ s.srcW.toNat ∧ s.srcW.toNat ≤ s.cfg.wmax := by
  simp only [State.srcShapeValid, validHeight, validWidth, Bool.and_eq_true, decide_eq_true_eq, and_assoc]

section Causes

variable {i : Instr} {s t : State}

theorem toyiqCheck_eq_shape : toyiqCheck s = some .shape ↔ ¬(s.srcH = s.dstH ∧ s.srcW = s.dstW) := by
  by_cases hsame : s.srcH = s.dstH ∧ s.srcW = s.dstW
  · simp [toyiqCheck, hsame]
  · simp [toyiqCheck, hsame]

theorem fromyiqCheck_eq_shape : fromyiqCheck s = some .shape ↔ ¬(s.dstH = s.plH ∧ s.dstW = s.plW) := by
  by_cases hsame : s.dstH = s.plH ∧ s.dstW = s.plW
  · simp [fromyiqCheck, hsame]
  · simp [fromyiqCheck, hsame]

/-- The shape comparison is the first check of the converters, and no other command has it. -/
theorem checkOf_eq_shape_iff : checkOf i s = some .shape ↔ ShapeMismatch i s := by
  by_cases hconverter : i = .toyiq ∨ i = .fromyiq
  · rcases hconverter with rfl | rfl
    · simp only [checkOf, toyiqCheck_eq_shape, ShapeMismatch, true_and, reduceCtorEq, false_and, or_false]
    · simp only [checkOf, fromyiqCheck_eq_shape, ShapeMismatch, true_and, reduceCtorEq, false_and, false_or]
  · obtain ⟨htoyiq, hfromyiq⟩ := not_or.mp hconverter
    have hother : checkOf i s ≠ some .shape := fun h => by
      obtain ⟨-, hi⟩ | ⟨hcode, -⟩ := checkOf_some h
      · exact hconverter hi
      · cases hcode
    simp only [hother, ShapeMismatch, htoyiq, hfromyiq, false_and, or_false]

/-- A command passes its check when neither cause is there. -/
theorem checkOf_eq_none_iff : checkOf i s = none ↔ ¬ShapeMismatch i s ∧ ¬InvalidArgument i s := by
  unfold ShapeMismatch InvalidArgument
  rw [← State.planeShapeValid_iff, ← State.srcShapeValid_iff]
  cases i with
  | nop => simp [checkOf]
  | toyiq => simp [checkOf, toyiqCheck_none]
  | fromyiq => simp [checkOf, fromyiqCheck_none]
  | c2l => simp [checkOf, codecCheck_none]
  | l2c => simp [checkOf, codecCheck_none]
  | _ => simp [checkOf, planeCheck_none]

/-- An invalid argument is what the check reports when the shapes agree (R207). -/
theorem checkOf_eq_invalidArg (hmatch : ¬ShapeMismatch i s) (hinvalid : InvalidArgument i s) :
    checkOf i s = some .invalidArg := by
  cases hcheck : checkOf i s with
  | none => exact absurd hinvalid (checkOf_eq_none_iff.mp hcheck).2
  | some code =>
    obtain ⟨rfl, -⟩ | ⟨rfl, -⟩ := checkOf_some hcheck
    · exact absurd (checkOf_eq_shape_iff.mp hcheck) hmatch
    · rfl

/-! ### The fault registers after a command (60_exceptions.md R204) -/

/-- The effect of a command and its count leave both fault registers. -/
theorem Evolves.complete_faultRegs (h : Evolves i (effectStart i s) t) :
    t.complete.errCode = s.errCode ∧ t.complete.errCmd = s.errCmd :=
  ⟨(h.kept State.errCode rfl).trans (effectStart_kept _ i rfl),
    (h.kept State.errCmd rfl).trans (effectStart_kept _ i rfl)⟩

theorem exec_faultRegs_of_check_none (hclear : s.errCode = 0#8) (hcheck : checkOf i s = none)
    (h : exec i s = .next t) : t.errCode = 0#8 ∧ t.errCmd = s.errCmd := by
  obtain ⟨hlatched, -⟩ | ⟨-, code, hfault, -⟩ | ⟨-, -, u, hu, rfl⟩ := exec_cases h
  · exact absurd hclear hlatched
  · rw [hcheck] at hfault
    cases hfault
  · rw [← hclear]
    exact hu.complete_faultRegs

/-- A command that changes the code was not discarded and did not complete: it took a fault. -/
theorem exec_eq_raiseFault_of_errCode_ne (h : exec i s = .next t) (hne : t.errCode ≠ s.errCode) :
    s.errCode = 0#8 ∧ ∃ code, t = s.raiseFault code (encode i) := by
  obtain ⟨-, rfl⟩ | ⟨hclear, code, -, ht⟩ | ⟨-, -, u, hu, rfl⟩ := exec_cases h
  · exact absurd rfl hne
  · exact ⟨hclear, code, ht⟩
  · exact absurd hu.complete_faultRegs.1 hne

/-- A write to `CMD` of an illegal word takes its fault when none is latched (R201). -/
theorem perform_write_illegal_of_clear {w : Word} {e : Reject} (hdec : decode w = .error e)
    (hclear : s.errCode = 0#8) : perform (.writeReg 0x04 w) s = .next (s.raiseFault .illegalCmd w) := by
  rw [perform_write_illegal hdec, issueIllegal_of_clear hclear]

end Causes

/-- Settles O10: the check of a command finds a mismatch before an invalid argument, and the fault it finds is the one
that is taken; a command that passes leaves the fault registers. -/
theorem faultsAreRaisedExactlyByTheirCauses : Obligations.FaultsAreRaisedExactlyByTheirCauses := by
  unfold Obligations.FaultsAreRaisedExactlyByTheirCauses
  intro s hclear
  refine ⟨fun w e hdec => perform_write_illegal_of_clear hdec hclear,
    fun i mismatch invalid hmismatch hinvalid => ?_⟩
  have hm : mismatch ↔ ShapeMismatch i s := hmismatch
  have hv : invalid ↔ InvalidArgument i s := hinvalid
  rw [hm, hv]
  exact ⟨fun h => exec_of_check_some hclear (checkOf_eq_shape_iff.mpr h),
    fun hmatch h => exec_of_check_some hclear (checkOf_eq_invalidArg hmatch h),
    fun hmatch hvalid _ => exec_faultRegs_of_check_none hclear (checkOf_eq_none_iff.mpr ⟨hmatch, hvalid⟩)⟩

/-! ### `STATUS.ERRF` (10_state.md R24) -/

theorem State.readReg_status_errf (s : State) : (s.readReg .status).getLsbD 1 = s.errFlag := by
  rw [State.readReg, State.statusWord]
  cases s.sat with
  | _ => cases s.errFlag with
    | _ => rfl

theorem State.raiseFault_errf (s : State) (code : FaultCode) (w : Word) :
    ((s.raiseFault code w).readReg .status).getLsbD 1 = true := by
  rw [State.readReg_status_errf, State.errFlag_eq_true_iff]
  exact faultCode_ne_zero code

/-- Settles O9: a command or a word that changes the code took a fault, which writes the two fault registers with a
code that is not 0. -/
theorem faultEntryChangesOnlyTheFaultRegisters : Obligations.FaultEntryChangesOnlyTheFaultRegisters := by
  unfold Obligations.FaultEntryChangesOnlyTheFaultRegisters
  refine ⟨fun i s t h hne => ?_, fun w e s hdec hclear => ?_⟩
  · obtain ⟨hclear, code, rfl⟩ := exec_eq_raiseFault_of_errCode_ne h hne
    exact ⟨hclear, rfl, s.raiseFault_errf code _⟩
  · exact ⟨_, perform_write_illegal_of_clear hdec hclear, rfl, s.raiseFault_errf _ w⟩

/-! ### While a fault is latched (60_exceptions.md R206) -/

theorem perform_write_cmd_latched {s : State} (hlatched : s.errCode ≠ 0#8) (w : Word) :
    perform (.writeReg 0x04 w) s = .next s := by
  cases hdec : decode w with
  | error e => rw [perform_write_illegal hdec, issueIllegal, if_pos hlatched]
  | ok i => rw [perform_write_legal hdec, exec_eq_runCommand, runCommand_latched hlatched]

/-- The state with another code latched, or none. -/
def State.withErrCode (s : State) (code : BitVec 8) : State := { s with errCode := code }

section WithErrCode

variable (s : State) (code : BitVec 8)

theorem State.readReg_withErrCode {r : Reg} (hr : isParameter r = true) :
    (s.withErrCode code).readReg r = s.readReg r := by
  cases r with
  | id | cmd | status | err | errcmd | cmdcnt => cases hr
  | _ => rfl

theorem State.writeReg_withErrCode (w : Word) {r : Reg} (hr : isParameter r = true) :
    (s.withErrCode code).writeReg w r = (s.writeReg w r).withErrCode code := by
  cases r with
  | id | cmd | status | err | errcmd | cmdcnt => cases hr
  | _ => rfl

@[simp] theorem State.frame_withErrCode (f : Frame) : (s.withErrCode code).frame f = s.frame f := rfl

@[simp] theorem State.plane_withErrCode (p : Plane) : (s.withErrCode code).plane p = s.plane p := rfl

theorem State.setFrame_withErrCode (f : Frame) (m : Memory 8) :
    (s.withErrCode code).setFrame f m = (s.setFrame f m).withErrCode code := by cases f <;> rfl

theorem State.setPlane_withErrCode (p : Plane) (m : Memory 32) :
    (s.withErrCode code).setPlane p m = (s.setPlane p m).withErrCode code := by cases p <;> rfl

end WithErrCode

/-- The transaction answers the same whatever code is latched, and leaves the code. -/
def CommutesWithErrCode (op : HostOp) : Prop :=
  ∀ (s : State) (code : BitVec 8),
    perform op (s.withErrCode code) = mapNext (·.withErrCode code) (perform op s)

theorem readParameter_commutes {r : Reg} (hr : isParameter r = true) :
    CommutesWithErrCode (.readReg (regOffset r)) := by
  intro s code
  simp only [perform_readReg_of_offsetOk (offsetOk_regOffset r), hostReadReg_regOffset,
    State.readReg_withErrCode _ _ hr]
  rfl

theorem writeParameter_commutes {r : Reg} (hr : isParameter r = true) (w : Word) :
    CommutesWithErrCode (.writeReg (regOffset r) w) := by
  intro s code
  have hcmd : r ≠ .cmd := by
    rintro rfl
    cases hr
  rw [perform_writeReg_regOffset _ _ hcmd, perform_writeReg_regOffset _ _ hcmd, State.writeReg_withErrCode _ _ _ hr]
  rfl

theorem readByte_commutes (f : Frame) (k : Nat) : CommutesWithErrCode (.readByte f k) := by
  intro s code
  by_cases hk : k < frameSize s.cfg
  · cases hv : memGet (s.frame f) k with
    | none =>
      rw [perform_readByte_unwritten hk hv]
      exact perform_readByte_unwritten (s := s.withErrCode code) hk (by rwa [State.frame_withErrCode])
    | some v =>
      rw [perform_readByte_written hk hv]
      exact perform_readByte_written (s := s.withErrCode code) hk (by rwa [State.frame_withErrCode])
  · rw [perform_readByte_outside s f hk]
    exact perform_readByte_outside (s.withErrCode code) f hk

theorem writeByte_commutes (f : Frame) (k : Nat) (v : Byte) : CommutesWithErrCode (.writeByte f k v) := by
  intro s code
  by_cases hk : k < frameSize s.cfg
  · rw [perform_writeByte_inside f v hk, perform_writeByte_inside (s := s.withErrCode code) f v hk,
      State.frame_withErrCode, State.setFrame_withErrCode]
    rfl
  · rw [perform_writeByte_outside s f v hk]
    exact perform_writeByte_outside (s.withErrCode code) f v hk

theorem readSample_commutes (p : Plane) (k : Nat) : CommutesWithErrCode (.readSample p k) := by
  intro s code
  by_cases hk : k < planeSize s.cfg
  · cases hv : memGet (s.plane p) k with
    | none =>
      rw [perform_readSample_unwritten hk hv]
      exact perform_readSample_unwritten (s := s.withErrCode code) hk (by rwa [State.plane_withErrCode])
    | some v =>
      rw [perform_readSample_written hk hv]
      exact perform_readSample_written (s := s.withErrCode code) hk (by rwa [State.plane_withErrCode])
  · rw [perform_readSample_outside s p hk]
    exact perform_readSample_outside (s.withErrCode code) p hk

theorem writeSample_commutes (p : Plane) (k : Nat) (v : Sample) : CommutesWithErrCode (.writeSample p k v) := by
  intro s code
  by_cases hk : k < planeSize s.cfg
  · rw [perform_writeSample_inside p v hk, perform_writeSample_inside (s := s.withErrCode code) p v hk,
      State.plane_withErrCode, State.setPlane_withErrCode]
    rfl
  · rw [perform_writeSample_outside s p v hk]
    exact perform_writeSample_outside (s.withErrCode code) p v hk

/-- Settles O7: the latched code stops a write to `CMD` before anything else, and the other transactions neither read
the code nor write it. -/
theorem latchedFaultDiscardsCommands : Obligations.LatchedFaultDiscardsCommands := by
  unfold Obligations.LatchedFaultDiscardsCommands
  intro s hlatched
  refine ⟨perform_write_cmd_latched hlatched, fun op hop => ?_⟩
  have hcommutes : CommutesWithErrCode op := by
    obtain ⟨r, hr, rfl | ⟨w, rfl⟩⟩ | ⟨f, k, rfl | ⟨v, rfl⟩⟩ | ⟨p, k, rfl | ⟨v, rfl⟩⟩ := hop
    · exact readParameter_commutes hr
    · exact writeParameter_commutes hr w
    · exact readByte_commutes f k
    · exact writeByte_commutes f k v
    · exact readSample_commutes p k
    · exact writeSample_commutes p k v
  exact hcommutes (s.withErrCode 0#8) s.errCode

/-! ### Returning from a fault (60_exceptions.md R205) -/

/-- Settles O8: a write to `ERR` is `ackFault`; a write to `CMD` of a legal word is the command in every state, and
`NOP` counts in a state with no fault latched. -/
theorem acknowledgingClearsTheFault : Obligations.AcknowledgingClearsTheFault := by
  unfold Obligations.AcknowledgingClearsTheFault
  refine fun s v => ⟨perform_writeReg_regOffset s v (r := .err) (by decide),
    fun i => perform_write_legal (decode_encode i) _, ?_⟩
  exact (perform_write_legal (decode_encode .nop) _).trans (nopOnlyCounts.1 _ rfl)

end Sys2Proof.Machine
end
